-- ==== Sys2Proof/Word.lean ====
section
/-! DEFINITION. The plainest words of the TW412: bytes, line levels, station numbers.

A line level, a point level and a pin level are all one `Bool`: `true` is 1, high, recessive; `false` is 0, low, dominant
(R70: a level of 1 is a recessive bit on the line; R168). -/

namespace Sys2Proof

/-- One byte (00_scope.md, "Order of bits and bytes"). -/
abbrev Byte := BitVec 8

/-- A station number, 0–31 (R1). -/
abbrev StationNo := Fin 32

/-- A term number, 0–15 (R25, R27). -/
abbrev TermNo := Fin 16

/-- A line level: `true` recessive (1), `false` dominant (0); the line is wired-AND (00_scope.md section 5). -/
abbrev Level := Bool

/-- The dominant level, 0. -/
abbrev dominant : Level := false

/-- The recessive level, 1. -/
abbrev recessive : Level := true

end Sys2Proof
end

