-- ==== Sys2Proof/Syntax.lean ====
section
/-! DEFINITION. The commands: one constructor of `Instr` per row of spec/opcode_table.json.

The table gives its rows no operands; an operand here is what the happening brings with it (log 4). -/

namespace Sys2Proof

/-- The CFGSRC strap as sampled: high selects MEMORY, low selects TAP (R143). -/
inductive Strap
  | memory
  | tap
deriving DecidableEq, Repr

/-- Which part of a tap transaction a tap command stands for (R156, R159, R164; log 10). -/
inductive TapPart
  /-- `clocks` further clock periods: a bit of the command arrives at each of them, the most significant first, until it is complete, and
  a bit of the output goes out. -/
  | arriving (clocks : Nat)
  /-- The bits that are left arrive; with the last one live values are captured and the response is fixed (R159, R164). -/
  | complete
  /-- Chip select rises after `clocks` further clock periods: the complete command takes effect (R156). -/
  | rising (clocks : Nat)
  /-- `complete` and `rising`, with nothing between them. -/
  | whole (clocks : Nat)
deriving DecidableEq, Repr

/-- What a transaction without a complete known command has received (R156). -/
structure Incomplete where
  /-- The whole bytes, the code first. -/
  received : List Byte
  /-- The bits after them, less than a byte. -/
  spare : List Level := []
  /-- Chip select rises now; otherwise the transaction is still open. -/
  rises : Bool := true
deriving DecidableEq, Repr

/-- What a tick brings (R127). -/
structure Sample where
  /-- What the sixteen contact pins present. -/
  raw : BitVec 16
  /-- Present where the acceptances of this tick fall after the snapshot of the close that comes next and before its end: how many of
  that close's events are posted before theirs (R131; log 18). -/
  within : Option Nat := none
deriving DecidableEq, Repr

/-- One constructor per row of spec/opcode_table.json, in the table's order. -/
inductive Instr
  /-- POWER_ON (R106): power becomes good with RESET_N high; the strap is sampled. -/
  | powerOn (strap : Strap)
  /-- RESET_N_LOW (R106). -/
  | resetNLow
  /-- RESET_N_RISING (R106): the strap is sampled. -/
  | resetNRising (strap : Strap)
  /-- READING_COMPLETE (R144): `bytes` are the image bytes clocked in since the loader's byte count, the last one the 512th; the
  command and the address have gone out. -/
  | readingComplete (bytes : List Byte)
  /-- CHECKING_COMPLETE (R153): `raw` is what the sixteen contact pins present at that moment, tick 0 on a pass (R126). -/
  | checkingComplete (raw : BitVec 16)
  /-- ROUND_TIMER_EXPIRY (R49). -/
  | roundTimerExpiry
  /-- MARK_BEGIN (R50): the last 6 bits taken were recessive. -/
  | markBegin
  /-- MARK_FAILED (R50). -/
  | markFailed
  /-- MARK_RELEASE (R50). -/
  | markRelease
  /-- MARK_RECOGNISED (R49, R56): `lossFirst` says whether an attempt lost under the mark is taken before the cut close (R97). -/
  | markRecognised (lossFirst : Bool)
  /-- MARK_END (R57). -/
  | markEnd
  /-- SLOT_BOUNDARY (R54). -/
  | slotBoundary
  /-- START_BIT (R93): `taken` says that the line is already dominant when the start bit is due. -/
  | startBit (taken : Bool)
  /-- COLLISION (R94) at line bit `bit` of the own frame, counted from 0 at its start bit. -/
  | collision (bit : Nat)
  /-- TRANSCEIVER_FAULT (R94) at line bit `bit` of the own frame, counted from 0 at its start bit. -/
  | transceiverFault (bit : Nat)
  /-- ATTEMPT_SENT (R96). -/
  | attemptSent
  /-- FRAME_RECEIVED (R77): `levels` are the line levels not yet taken by the receiver, the last one the end bit; `lossFirst`
  says whether an attempt lost to this frame is settled before the frame is handed on (log 5). -/
  | frameReceived (levels : List Level) (lossFirst : Bool)
  /-- BAD_FRAME (R74–R76): `levels` as in FRAME_RECEIVED, the last one the bit that ends the reception. -/
  | badFrame (levels : List Level)
  /-- STUCK (R120). -/
  | stuck
  /-- LINE_CLEAR (R121). -/
  | lineClear
  /-- TICK (R127). -/
  | tick (sample : Sample)
  /-- INPUT_ACCEPTED (R129): every acceptance due at the latest tick, together. -/
  | inputAccepted
  /-- CHIP_SELECT_FALLING (R156). -/
  | chipSelectFalling
  /-- READ_STATUS (R159). -/
  | readStatus (part : TapPart)
  /-- READ_COUNTERS (R159). -/
  | readCounters (part : TapPart)
  /-- READ_ROSTER (R160). -/
  | readRoster (first last : Byte) (part : TapPart)
  /-- READ_POINTS (R160). -/
  | readPoints (station : Byte) (part : TapPart)
  /-- READ_TERMS (R160). -/
  | readTerms (part : TapPart)
  /-- TAKE_EVENTS (R164). -/
  | takeEvents (n : Byte) (part : TapPart)
  /-- WITHDRAW (R115). -/
  | withdraw (part : TapPart)
  /-- REJOIN (R116). -/
  | rejoin (part : TapPart)
  /-- REPACK (R15). -/
  | repack (part : TapPart)
  /-- CLEAR_COUNTERS (R166). -/
  | clearCounters (part : TapPart)
  /-- RESTART (R109). -/
  | restart (part : TapPart)
  /-- LOAD_CONFIG (R110, R146): `image` are the argument bytes sent. -/
  | loadConfig (image : List Byte) (part : TapPart)
  /-- MALFORMED (R156). -/
  | malformed (bits : Incomplete)
deriving DecidableEq, Repr

end Sys2Proof
end

