-- ==== Sys2Proof/Decode.lean ====
section
/-! DEFINITION. The words that spell commands: the rows of spec/opcode_table.json give no bits, so `decodeTableWord` answers
`none`; the tap's command codes of R170 are read and written here, byte by byte. -/

namespace Sys2Proof

/-- The command a table word spells: no row of spec/opcode_table.json gives bits, so no word spells one (log 7). -/
def decodeTableWord (_nbits _w : Nat) : Option Instr := none

/-- How many argument bytes the command of a code takes; `none` for an unknown code (R170). -/
def tapArguments (code : Nat) : Option Nat :=
  match code with
  | 0x01 => some 0
  | 0x02 => some 0
  | 0x03 => some 2
  | 0x04 => some 1
  | 0x05 => some 0
  | 0x06 => some 1
  | 0x10 => some 0
  | 0x11 => some 0
  | 0x12 => some 0
  | 0x13 => some 0
  | 0x14 => some 0
  | 0x20 => some 512
  | _ => none

/-- The command of a known code with its argument bytes; `none` for an unknown code (R158, R170). -/
def tapCommandOf (code : Nat) (args : List Byte) (part : TapPart) : Option Instr :=
  match code with
  | 0x01 => some (.readStatus part)
  | 0x02 => some (.readCounters part)
  | 0x03 => some (.readRoster (args.getD 0 0) (args.getD 1 0) part)
  | 0x04 => some (.readPoints (args.getD 0 0) part)
  | 0x05 => some (.readTerms part)
  | 0x06 => some (.takeEvents (args.getD 0 0) part)
  | 0x10 => some (.withdraw part)
  | 0x11 => some (.rejoin part)
  | 0x12 => some (.repack part)
  | 0x13 => some (.clearCounters part)
  | 0x14 => some (.restart part)
  | 0x20 => some (.loadConfig args part)
  | _ => none

/-- The bytes hold a known code and all of its arguments (R156: the command is complete and its code is known). -/
def tapComplete (received : List Byte) : Bool :=
  match received with
  | [] => false
  | code :: args => match tapArguments code.toNat with
    | none => false
    | some n => decide (n ≤ args.length)

/-- What a transaction that received these bytes is: the command they spell, bytes beyond the arguments ignored, or MALFORMED
(R156, R158, R170). -/
def decodeTap (received : List Byte) (part : TapPart) : Instr :=
  match received with
  | [] => .malformed { received := [] }
  | code :: args =>
    match tapArguments code.toNat with
    | none => .malformed { received := received }
    | some n =>
      if n ≤ args.length then (tapCommandOf code.toNat (args.take n) part).getD (.malformed { received := received })
      else .malformed { received := received }

/-- The bytes a processor sends for a tap command, code first (R170); `none` for a happening that is no tap command. -/
def encodeTap (i : Instr) : Option (List Byte) :=
  match i with
  | .readStatus _ => some [0x01]
  | .readCounters _ => some [0x02]
  | .readRoster first last _ => some [0x03, first, last]
  | .readPoints station _ => some [0x04, station]
  | .readTerms _ => some [0x05]
  | .takeEvents n _ => some [0x06, n]
  | .withdraw _ => some [0x10]
  | .rejoin _ => some [0x11]
  | .repack _ => some [0x12]
  | .clearCounters _ => some [0x13]
  | .restart _ => some [0x14]
  | .loadConfig image _ => some (0x20 :: image)
  | .malformed bits => if bits.spare = [] ∧ bits.rises then some bits.received else none
  | .powerOn _ | .resetNLow | .resetNRising _ | .readingComplete _ | .checkingComplete _ | .roundTimerExpiry
  | .markBegin | .markFailed | .markRelease | .markRecognised _ | .markEnd | .slotBoundary | .startBit _
  | .collision _ | .transceiverFault _ | .attemptSent | .frameReceived _ _ | .badFrame _ | .stuck | .lineClear
  | .tick _ | .inputAccepted | .chipSelectFalling => none

/-- The part of the transaction a tap command stands for; `none` where the command has none. -/
def tapPartOf (i : Instr) : Option TapPart :=
  match i with
  | .readStatus p | .readCounters p | .readRoster _ _ p | .readPoints _ p | .readTerms p | .takeEvents _ p
  | .withdraw p | .rejoin p | .repack p | .clearCounters p | .restart p | .loadConfig _ p => some p
  | .malformed _ | .powerOn _ | .resetNLow | .resetNRising _ | .readingComplete _ | .checkingComplete _
  | .roundTimerExpiry | .markBegin | .markFailed | .markRelease | .markRecognised _ | .markEnd | .slotBoundary
  | .startBit _ | .collision _ | .transceiverFault _ | .attemptSent | .frameReceived _ _ | .badFrame _ | .stuck
  | .lineClear | .tick _ | .inputAccepted | .chipSelectFalling => none

end Sys2Proof
end

