-- ==== Sys2Proof/Config.lean ====
section
/-! DEFINITION. What the part itself fixes: lengths of runs, room in queues, clock divisions.

Where the spec leaves an order or an outside level open, the command that brings it carries it as an operand (log 5). The two levels
that it leaves to the part itself, on pins no block reads back, are the free values at the end (log 21). -/

namespace Sys2Proof.Config

/-- Recessive bits from one slot boundary to the next (R47). -/
def boundaryRun : Nat := 6

/-- Dominant bits at which a run is recognised as a mark (R46). -/
def markRun : Nat := 10

/-- Dominant bits of a mark this station drives (R50). -/
def markLength : Nat := 12

/-- Dominant bits of a stuck line, and recessive bits of a clear one (R46, R48). -/
def stuckRun : Nat := 64

/-- Equal bits after which a stuff bit is due (R68). -/
def stuffRun : Nat := 4

/-- The round bit at which the timer stands once a mark is recognised (R49). -/
def recognisedRoundBit : Nat := 9

/-- Bit times per unit of the round period P (R49). -/
def periodBits : Nat := 64

/-- Reference clocks per tick (R125). -/
def tickClocks : Nat := 8000

/-- Reference clocks per bit time at rate code 0; each further code halves it (R45). -/
def slowestBitClocks : Nat := 256

/-- Bytes of the configuration image (R142). -/
def imageBytes : Nat := 512

/-- Points of the pool (R10). -/
def poolPoints : Nat := 512

/-- What the loader sends the memory before it clocks data in: the read command and the address 0000h, high byte first (R144). -/
def memoryRead : List Byte := [0x03, 0x00, 0x00]

/-- Entries of the event queue (R163). -/
def queueRoom : Nat := 32

/-- The consecutive losses that make a transmit fault (R97, R119). -/
def lossLimit : Nat := 4

/-- Free: the level of CFG_DO at clock period `bit` of image byte `byte`, while the memory's data is clocked in (R144 gives none;
log 21). -/
opaque cfgDataLevel (byte bit : Nat) : Level

/-- Free: the level of TAP_DO while TAP_CS is low and no transaction is open (R156 drives it and gives no level; log 21). -/
opaque tapIdleLevel : Level

end Sys2Proof.Config
end

