-- ==== Sys2Proof/Machine/State.lean ====
section
/-! DEFINITION. The state of the TW412 as plain data, block by block (00_scope.md section 2), the outcomes' reasons, and the state
after reset. -/

namespace Sys2Proof.Machine

/-- Why the part stops: never. The spec turns every error into a state, a counter, an event or a result, so no meaning faults
(log 1). -/
inductive Fault
deriving DecidableEq, Repr

/-- Why a command has no meaning. -/
inductive Refusal
  /-- Raised by no meaning: kept for `exec`'s arm of a command without one. Safe. -/
  | notModelled (mnemonic : String)
deriving DecidableEq, Repr

/-! ### The roster (R2) -/

/-- A member's standing (R2, R3). -/
inductive Presence
  | unseen
  | present
  | late
  | absent
deriving DecidableEq, Repr

/-- Why a member is ABSENT (R2, R3). -/
inductive AbsentReason
  | silent
  | left
deriving DecidableEq, Repr

/-- How often a station sends: every 1, 2, 4 or 8 rounds (R69). -/
inductive Cadence
  | one
  | two
  | four
  | eight
deriving DecidableEq, Repr

/-- How a member's points fit the pool (R2, R12). -/
inductive Placement
  | none
  | full
  | truncated
  | unplaced
deriving DecidableEq, Repr

/-- The two sender flags of a frame (R69). -/
structure SenderFlags where
  stale : Bool
  pool : Bool
deriving DecidableEq, Repr

/-- One member record (R2). -/
structure Member where
  presence : Presence
  reason : Option AbsentReason
  /-- 0–255, saturating. -/
  age : Nat
  cadence : Option Cadence
  /-- 1–8 bytes. -/
  width : Option Nat
  lastSeq : Option (BitVec 6)
  tag : Option (BitVec 10)
  flags : Option SenderFlags
  heard : Bool
  /-- 0–255, saturating, as are the two counts below (R20). -/
  missed : Nat
  repeats : Nat
  tagChanges : Nat
  placement : Placement
deriving DecidableEq, Repr

/-- An UNSEEN record with its optional fields absent, age 0 and counts 0 (R1). -/
def Member.unseen : Member :=
  { presence := .unseen, reason := none, age := 0, cadence := none, width := none, lastSeq := none, tag := none,
    flags := none, heard := false, missed := 0, repeats := 0, tagChanges := 0, placement := .none }

/-- The roster: one record per station number (R1). -/
abbrev Roster := Vector Member 32

/-- An allocation entry (R11). -/
structure Entry where
  station : StationNo
  offset : Nat
  length : Nat
deriving DecidableEq, Repr

/-- The point pool: 512 levels and 512 supplied flags (R10). -/
structure Pool where
  levels : BitVec 512
  supplied : BitVec 512
deriving DecidableEq, Repr

/-- The image store's state (Chapter 1). -/
structure Image where
  roster : Roster
  table : List Entry
  pool : Pool
  repackPending : Bool
  /-- The own points, once they exist (R21). -/
  own : Option (BitVec 64)
deriving DecidableEq, Repr

/-! ### The term engine (R25, R27) -/

/-- A literal's sense (R25). -/
inductive Sense
  | trueWhenHigh
  | trueWhenLow
deriving DecidableEq, Repr

/-- One operand of a term (R25). -/
structure Literal where
  station : StationNo
  point : Fin 64
  sense : Sense
deriving DecidableEq, Repr

/-- How a term combines its literals (R25). -/
inductive TermKind
  | all
  | any
  | count
deriving DecidableEq, Repr

/-- What an UNKNOWN raw result does (R25, R33). -/
inductive Policy
  | forceOn
  | forceOff
  | hold
deriving DecidableEq, Repr

/-- A term of the table (R25). -/
structure Term where
  kind : TermKind
  k : Nat
  literals : List Literal
  hold : Nat
  release : Nat
  policy : Policy
deriving DecidableEq, Repr

/-- A three-valued result (R22, R31). -/
inductive Tri
  | yes
  | no
  | unknown
deriving DecidableEq, Repr

/-- A term's phase, with the count where the phase has one (R27). -/
inductive Phase
  | off
  | arming (count : Nat)
  | on
  | disarming (count : Nat)
deriving DecidableEq, Repr

/-- A term's state (R27). The value follows from the phase. -/
structure TermState where
  phase : Phase
  lastRaw : Tri
  byPolicy : Bool
deriving DecidableEq, Repr

/-- The reset values of a term state (R27). -/
def TermState.reset : TermState := { phase := .off, lastRaw := .unknown, byPolicy := false }

/-- The term engine's state (Chapter 2); the term table is part of the accepted configuration. -/
structure TermEngine where
  terms : Vector TermState 16
  /-- The STALE sender flag (R41). -/
  stale : Bool
deriving DecidableEq, Repr

/-! ### The accepted configuration (R148–R150) -/

/-- Where an own point takes its level (R150); `none` for a map entry that is not judged. -/
inductive PointSource
  | constant (level : Bool)
  | input (j : Fin 16)
  | term (j : TermNo)
  | none
deriving DecidableEq, Repr

/-- An output record (R135). -/
structure OutputRecord where
  /-- `none` is source NONE. -/
  source : Option TermNo
  invert : Bool
  safe : Bool
deriving DecidableEq, Repr

/-- The configuration every block takes at the entry to LISTEN from LOADING (R153). -/
structure Configuration where
  own : StationNo
  /-- H. -/
  high : StationNo
  tag : BitVec 10
  rate : Fin 4
  /-- P. -/
  period : Nat
  cadence : Cadence
  phase : Nat
  /-- g. -/
  grace : Nat
  /-- L. -/
  listen : Nat
  /-- Own width in bytes. -/
  width : Nat
  terms : List Term
  /-- Settle codes of the four input groups (R124). -/
  settle : Vector (Fin 8) 4
  enables : BitVec 4
  mask : BitVec 13
  points : Vector PointSource 64
  outputs : Vector OutputRecord 8
deriving DecidableEq, Repr

/-! ### Station controller and loader -/

/-- The reasons of the thirteen checks, in order (R151). -/
inductive CheckReason
  | imageCheck
  | version
  | stationRange
  | rate
  | period
  | cadence
  | width
  | pointMap
  | termShape
  | literalRange
  | outputSource
  | grace
  | listenRange
deriving DecidableEq, Repr

/-- Why the station is in LINE_FAULT (R104). -/
inductive LineReason
  | stuck
  | tx
deriving DecidableEq, Repr

/-- A fault reason (R104). -/
inductive StopReason
  | check (reason : CheckReason)
  | line (reason : LineReason)
deriving DecidableEq, Repr

/-- The station state, with the fault reason or the listen count where the state has one (R104). -/
inductive Station
  | loading
  | configFault (reason : CheckReason)
  | listen (count : Nat)
  | active
  | withdrawn
  | duplicate
  | lineFault (reason : LineReason)
deriving DecidableEq, Repr

/-- The station controller's state (R104). -/
structure Controller where
  station : Station
  withdrawalPending : Bool
  /-- Transmit fault held. -/
  txHeld : Bool
  /-- Last stop reason; `none` is NONE. -/
  lastStop : Option StopReason
  /-- Restart count, 0–255, saturating. -/
  restarts : Nat
deriving DecidableEq, Repr

/-- The load phase (R142). -/
inductive LoadPhase
  | idle
  | reading
  | waiting
  | checking
deriving DecidableEq, Repr

/-- The configuration loader's state (R142), and the configuration the blocks hold once it is accepted (R153). The byte count
of R142 is the length of `buffer`. -/
structure Loader where
  phase : LoadPhase
  buffer : List Byte
  config : Option Configuration
  /-- What of the read command and the address is still to be sent (R144). -/
  command : List Byte := []
  /-- The memory's chip select CFG_CS is low (R144). -/
  selectLow : Bool := false
deriving DecidableEq, Repr

/-! ### Line interface and round tracker (Chapter 3) -/

/-- The current run (R45). -/
structure Run where
  level : Level
  length : Nat
deriving DecidableEq, Repr

/-- The line interface's state. -/
structure LineInterface where
  run : Option Run
  /-- Bits of the own mark driven so far, while one is driven (R50). -/
  mark : Option Nat
  /-- Reference clocks since the latest tick (R125). -/
  clocks : Nat
deriving DecidableEq, Repr

/-- The round timer (R49). -/
inductive RoundTimer
  | stopped
  | running (bit : Nat)
  | expired
deriving DecidableEq, Repr

/-- The cursor (R54). -/
inductive Cursor
  | beforeZero
  | slot (n : StationNo)
deriving DecidableEq, Repr

/-- The walk state; the cursor is present while it is OPEN (R53, R54). -/
inductive Walk
  | idle
  | opened (cursor : Cursor)
  | closed
deriving DecidableEq, Repr

/-- The round tracker's state. -/
structure RoundTracker where
  timer : RoundTimer
  markDue : Bool
  walk : Walk
  /-- A mark has been recognised and has not ended (R53, "mark ends"). -/
  inMark : Bool
  /-- The round count, wrapping (R57). -/
  round : BitVec 16
deriving DecidableEq, Repr

/-! ### Frame receiver and frame sender (Chapters 4 and 5) -/

/-- The reception state (R72). -/
inductive RxState
  | waiting
  | receiving
  | held
deriving DecidableEq, Repr

/-- The frame receiver's state. -/
structure Receiver where
  state : RxState
  /-- Body bits received, stuff bits removed, first bit first (R73). -/
  bits : List Level
  /-- The level of the run inside the frame, and its length (R68). -/
  level : Level
  runLength : Nat
  /-- The walk state and cursor at the start bit (R72). -/
  startWalk : Walk
  ownMark : Bool
  /-- The latest level taken was recessive (R72). -/
  prevRecessive : Bool
deriving DecidableEq, Repr

/-- The receiver as it starts: WAITING, empty buffer, own mark clear (R72). -/
def Receiver.fresh : Receiver :=
  { state := .waiting, bits := [], level := dominant, runLength := 0, startWalk := .idle, ownMark := false,
    prevRecessive := false }

/-- The two valid frame kinds (R69). -/
inductive FrameKind
  | data
  | leave
deriving DecidableEq, Repr

/-- The attempt state (R88). -/
inductive Attempt
  | idle
  | driving
  | takenOver
deriving DecidableEq, Repr

/-- The frame sender's state (Chapter 5). Kind and buffer are present from the boundary that opens the own slot to the attempt's
outcome (log 6). -/
structure Sender where
  attempt : Attempt
  kind : Option FrameKind
  /-- The own frame buffer: header, points, check (R91). -/
  buffer : Option (List Byte)
  /-- Line bits of the frame driven so far. -/
  driven : Nat
  seq : BitVec 6
  /-- The consecutive-loss count, 0–4. -/
  losses : Nat
deriving DecidableEq, Repr

/-- The sender's reset condition (R88). -/
def Sender.reset : Sender :=
  { attempt := .idle, kind := none, buffer := none, driven := 0, seq := 0, losses := 0 }

/-! ### Inputs, outputs, tap -/

/-- The filter of one input (R126). -/
structure InputState where
  accepted : Bool
  count : Nat
deriving DecidableEq, Repr

/-- The output driver's state (R135); the output records are part of the accepted configuration. -/
structure OutputDriver where
  held : Option (BitVec 16)
  levels : BitVec 8
deriving DecidableEq, Repr

/-- The thirteen event kinds, in the order of the event mask (R149, R163). -/
inductive EventKind
  | termOn
  | termOff
  | memberNew
  | memberReturned
  | memberRecovered
  | memberLate
  | memberAbsent
  | memberLeft
  | tagChanged
  | poolShort
  | repacked
  | state
  | input
deriving DecidableEq, Repr

/-- An entry of the event queue (R163). -/
structure Event where
  kind : EventKind
  subject : Byte
  stamp : BitVec 16
  detail : BitVec 10
  afterLoss : Bool
deriving DecidableEq, Repr

/-- A copy of image, term and output state (R161). -/
structure Copy where
  stamp : BitVec 16
  roster : Roster
  table : List Entry
  pool : Pool
  own : Option (BitVec 64)
  terms : Vector TermState 16
  stale : Bool
  levels : BitVec 8
deriving DecidableEq, Repr

/-- The result of a command (R155). -/
inductive TapResult
  | none
  | accepted
  | refused
  | malformed
deriving DecidableEq, Repr

/-- What is fixed as a known command completes: its response and, for TAKE EVENTS, the take count (R159, R164). -/
structure Latch where
  response : List Byte
  take : Nat
deriving DecidableEq, Repr

/-- What an open transaction has taken in (R155, R156). -/
structure Opened where
  /-- The command code, once the first byte is complete. -/
  code : Option Byte
  /-- The arguments received, as many as the code takes at most; their number is R155's. -/
  args : List Byte
  /-- The bits of a byte of the command still arriving. -/
  spare : List Level
  /-- Present once the command is complete and its code known. -/
  latch : Option Latch
deriving DecidableEq, Repr

/-- A transaction at chip select falling: nothing has arrived (R155). -/
def Opened.fresh : Opened := { code := none, args := [], spare := [], latch := none }

/-- The transaction state (R155). -/
inductive Transaction
  | idle
  | opened (o : Opened)
deriving DecidableEq, Repr

/-- The local tap's state (R155). -/
structure Tap where
  trans : Transaction
  staged : Option Copy
  published : Copy
  queue : List Event
  lossMark : Bool
  lastResult : TapResult
  /-- 0–65535, saturating. -/
  lostEvents : Nat
  /-- The status byte captured at chip select falling (R157). -/
  status : Byte
  /-- The levels shifted out in the transaction, status byte first, most significant bits first, one for each clock period (R156). -/
  dout : List Level
deriving DecidableEq, Repr

/-- The twenty-one station counters, each 16 bits and saturating (R64, R87, R102, R159). -/
structure Counters where
  closes : Nat
  cutCloses : Nat
  overruns : Nat
  marksSent : Nat
  slips : Nat
  outOfSlot : Nat
  afterClose : Nat
  beyondWalk : Nat
  good : Nat
  badStuff : Nat
  badShort : Nat
  badDisturbed : Nat
  badFraming : Nat
  badCheck : Nat
  badHeader : Nat
  repeats : Nat
  framesSent : Nat
  attemptsLost : Nat
  collisions : Nat
  missedTurns : Nat
  skippedCopies : Nat
deriving DecidableEq, Repr

/-- All counters 0 (R64, R87, R102, R166). -/
def Counters.zero : Counters :=
  { closes := 0, cutCloses := 0, overruns := 0, marksSent := 0, slips := 0, outOfSlot := 0, afterClose := 0,
    beyondWalk := 0, good := 0, badStuff := 0, badShort := 0, badDisturbed := 0, badFraming := 0, badCheck := 0,
    badHeader := 0, repeats := 0, framesSent := 0, attemptsLost := 0, collisions := 0, missedTurns := 0,
    skippedCopies := 0 }

/-- Where a tick stands among the happenings of its bit time (the model's own; R131 leaves it open): after them; before them with its
acceptances; or before them with its acceptances within the close that one of them brings, so many of its events first. -/
inductive TickPlace
  | last
  | first
  | within (posted : Nat)
deriving DecidableEq, Repr

/-- What the line brings in one bit time to come (the model's own; log 12): the level the other stations drive, whether the
transceiver carries this station's dominant level, which of two happenings of that bit is taken first where the spec leaves
it open (R93, R97), and where a tick stands (R131). -/
structure LineBit where
  others : Level
  carries : Bool
  tie : Bool
  tick : TickPlace := .last
deriving DecidableEq, Repr

/-- The supply and RESET_N (R106): power coming up, RESET_N low with power good, or out of the reset condition. -/
inductive Power
  | off
  | resetLow
  | running
deriving DecidableEq, Repr

/-- The whole part. -/
structure State where
  power : Power
  strap : Strap
  /-- TAP_CS is low. -/
  tapSelectLow : Bool
  /-- What IN0–IN15 present. -/
  inputPins : BitVec 16
  ctl : Controller
  ldr : Loader
  img : Image
  eng : TermEngine
  line : LineInterface
  trk : RoundTracker
  rx : Receiver
  tx : Sender
  inp : Option (Vector InputState 16)
  /-- The model's own: the place within the close to come of the acceptances due at the latest tick, where they fall within it (R131;
  log 18). -/
  within : Option Nat
  drv : OutputDriver
  tap : Tap
  cnt : Counters
  /-- The model's own: the line levels to come (log 12). -/
  lineIn : List LineBit
  /-- The model's own: the bytes the serial memory will present (log 11). -/
  cfgIn : List Byte
  /-- The model's own: what IN0–IN15 will present, one entry for each step of time (log 22). -/
  contactIn : List (BitVec 16)
  /-- The model's own: the commands waiting, first in, first out. -/
  pending : List Instr
deriving DecidableEq, Repr

/-! ### Reset -/

/-- The image after an entry to LOADING (R1). -/
def Image.empty : Image :=
  { roster := Vector.replicate 32 Member.unseen, table := [], pool := { levels := 0, supplied := 0 },
    repackPending := false, own := none }

/-- The term engine after an entry to LOADING (R27, R41). -/
def TermEngine.reset : TermEngine := { terms := Vector.replicate 16 TermState.reset, stale := false }

/-- The round tracker after an entry to LOADING (R63). -/
def RoundTracker.reset : RoundTracker :=
  { timer := .stopped, markDue := false, walk := .idle, inMark := false, round := 0 }

/-- The line interface in LOADING (R45): no run, nothing driven, the tick timer stopped at 0 (R125). -/
def LineInterface.reset : LineInterface := { run := none, mark := none, clocks := 0 }

/-- The station controller after power-on or RESET_N (R104). -/
def Controller.reset : Controller :=
  { station := .loading, withdrawalPending := false, txHeld := false, lastStop := none, restarts := 0 }

/-- The loader in the reset condition (R142). -/
def Loader.reset : Loader := { phase := .idle, buffer := [], config := none }

/-- The output driver in LOADING (R135). -/
def OutputDriver.reset : OutputDriver := { held := none, levels := 0 }

/-- The empty copy (R162). -/
def Copy.empty : Copy :=
  { stamp := 0, roster := Image.empty.roster, table := [], pool := Image.empty.pool, own := none,
    terms := TermEngine.reset.terms, stale := false, levels := 0 }

/-- The tap after power-on or RESET_N (R155). -/
def Tap.reset : Tap :=
  { trans := .idle, staged := none, published := Copy.empty, queue := [], lossMark := false, lastResult := .none,
    lostEvents := 0, status := 0, dout := [] }

/-- The part in its reset condition while power comes up (R106): every block at the values the spec gives it after power-on,
nothing sampled, no command waiting (log 3 for the values the spec does not give). -/
def State.reset : State :=
  { power := .off, strap := .memory, tapSelectLow := false, inputPins := 0, ctl := Controller.reset,
    ldr := Loader.reset, img := Image.empty, eng := TermEngine.reset, line := LineInterface.reset,
    trk := RoundTracker.reset, rx := Receiver.fresh, tx := Sender.reset, inp := none, within := none, drv := OutputDriver.reset,
    tap := Tap.reset, cnt := Counters.zero, lineIn := [], cfgIn := [],
    contactIn := [], pending := [] }

end Sys2Proof.Machine
end

