-- ==== Sys2Proof/Machine/Formats.lean ====
section
/-! DEFINITION. Layouts and codes: bytes and bits, the check, the frame, stuffing, the codes of Chapter 11. -/

namespace Sys2Proof.Machine

/-! ### Bits and bytes -/

/-- The vector whose bit `i` is `f i`. -/
def bitsOf (f : Nat → Bool) : (n : Nat) → BitVec n
  | 0 => 0#0
  | n + 1 => BitVec.cons (f n) (bitsOf f n)

/-- A number as one byte. -/
def byteOf (n : Nat) : Byte := BitVec.ofNat 8 n

/-- A 16-bit value, most significant byte first (00_scope.md, "Order of bits and bytes"). -/
def bytes16 (n : Nat) : List Byte := [byteOf (n / 256), byteOf n]

/-- The bits of a byte, most significant first. -/
def bitsOfByte (b : Byte) : List Level :=
  [b.getLsbD 7, b.getLsbD 6, b.getLsbD 5, b.getLsbD 4, b.getLsbD 3, b.getLsbD 2, b.getLsbD 1, b.getLsbD 0]

/-- The bits of a byte sequence in the order they go on the line (R67). -/
def bitsOfBytes : List Byte → List Level
  | [] => []
  | b :: bs => bitsOfByte b ++ bitsOfBytes bs

/-- Eight bits, most significant first, as a byte. -/
def byteOfBits (b7 b6 b5 b4 b3 b2 b1 b0 : Bool) : Byte :=
  bitsOf (fun i => [b0, b1, b2, b3, b4, b5, b6, b7].getD i false) 8

/-- The bytes that a bit sequence spells; bits short of a whole byte spell none. -/
def bytesOfBits : List Level → List Byte
  | b7 :: b6 :: b5 :: b4 :: b3 :: b2 :: b1 :: b0 :: rest => byteOfBits b7 b6 b5 b4 b3 b2 b1 b0 :: bytesOfBits rest
  | _ => []

/-- `n + by`, staying at `top` once it is reached ("saturating", 00_scope.md section 4). -/
def saturate (top n : Nat) : Nat := min n top

/-- A 16-bit saturating count, bumped. -/
def bump16 (n : Nat) : Nat := saturate 65535 (n + 1)

/-- An 8-bit saturating count, increased (R20). -/
def add8 (n k : Nat) : Nat := saturate 255 (n + k)

/-! ### The check (R71) -/

/-- One bit through the check's register: x^16 + x^12 + x^5 + 1. -/
def crcBit (c : BitVec 16) (b : Bool) : BitVec 16 :=
  if c.msb != b then (c <<< 1) ^^^ 0x1021#16 else c <<< 1

/-- One byte through the check's register, most significant bit first. -/
def crcByte (c : BitVec 16) (b : Byte) : BitVec 16 := (bitsOfByte b).foldl crcBit c

/-- The check of a byte sequence. -/
def crc (bytes : List Byte) : BitVec 16 := bytes.foldl crcByte 0xFFFF#16

/-- The check as sent: most significant byte first. -/
def crcBytes (bytes : List Byte) : List Byte := bytes16 (crc bytes).toNat

/-! ### Cadence and frame fields (R69, R168) -/

/-- The rounds of a cadence (R69). -/
def Cadence.rounds : Cadence → Nat
  | .one => 1
  | .two => 2
  | .four => 4
  | .eight => 8

/-- The code of a cadence (R69). -/
def Cadence.code : Cadence → Nat
  | .one => 0
  | .two => 1
  | .four => 2
  | .eight => 3

/-- The cadence of a code (R69). -/
def Cadence.ofCode (n : Nat) : Cadence :=
  match n with
  | 0 => .one
  | 1 => .two
  | 2 => .four
  | _ => .eight

/-- The kind value of a frame kind (R69). -/
def FrameKind.code : FrameKind → BitVec 3
  | .data => 1#3
  | .leave => 2#3

/-- The header fields of a frame, kind and reserved flag as they stand on the line (R69). -/
structure Header where
  station : StationNo
  kind : BitVec 3
  cadence : Cadence
  /-- Width in bytes, 1–8: the width code plus 1. -/
  widthCode : BitVec 3
  flags : SenderFlags
  reserved : Bool
  seq : BitVec 6
  tag : BitVec 10
deriving DecidableEq, Repr

/-- The width in bytes that a header states. -/
def Header.width (h : Header) : Nat := h.widthCode.toNat + 1

/-- The four header bytes (R168). -/
def Header.bytes (h : Header) : List Byte :=
  [ BitVec.ofNat 5 h.station.val ++ h.kind,
    BitVec.ofNat 2 h.cadence.code ++ h.widthCode ++ BitVec.ofBool h.flags.stale ++ BitVec.ofBool h.flags.pool ++
      BitVec.ofBool h.reserved,
    h.seq ++ h.tag.extractLsb' 8 2,
    h.tag.extractLsb' 0 8 ]

/-- The header that the first four body bytes spell (R168). -/
def Header.ofBytes (body : List Byte) : Header :=
  let b0 := body.getD 0 0
  let b1 := body.getD 1 0
  let b2 := body.getD 2 0
  let b3 := body.getD 3 0
  { station := (b0.extractLsb' 3 5).toFin
    kind := b0.extractLsb' 0 3
    cadence := Cadence.ofCode (b1.extractLsb' 6 2).toNat
    widthCode := b1.extractLsb' 3 3
    flags := { stale := b1.getLsbD 2, pool := b1.getLsbD 1 }
    reserved := b1.getLsbD 0
    seq := b2.extractLsb' 2 6
    tag := b2.extractLsb' 0 2 ++ b3 }

/-- The frame kind of a header, if the header is valid: kind DATA or LEAVE and the reserved flag 0 (R77). -/
def Header.validKind (h : Header) : Option FrameKind :=
  if h.reserved then none
  else if h.kind = FrameKind.code .data then some .data
  else if h.kind = FrameKind.code .leave then some .leave
  else none

/-- The point bytes that a frame of this kind value and width code carries (R67). -/
def pointBytes (kind widthCode : BitVec 3) : Nat :=
  if kind = FrameKind.code .data then widthCode.toNat + 1 else 0

/-- A frame body: header, points, check over both (R67, R71). -/
def frameBody (h : Header) (points : List Byte) : List Byte :=
  (h.bytes ++ points) ++ crcBytes (h.bytes ++ points)

/-- The check bytes of a body agree with its header and point bytes (R77). -/
def checkMatches (body : List Byte) : Bool :=
  decide (body.drop (body.length - 2) = crcBytes (body.take (body.length - 2)))

/-- The point bytes of a body: what stands between the header and the check (R67). -/
def bodyPoints (body : List Byte) : List Byte := (body.take (body.length - 2)).drop 4

/-- Point `p` of point bytes: byte p div 8, position p mod 8 from the least significant bit (R13, R70). -/
def pointOf (bytes : List Byte) (p : Nat) : Bool := (bytes.getD (p / 8) 0).getLsbD (p % 8)

/-- The first `w` point bytes of a row of 64 points (R70, R171). -/
def pointBytesOf (points : BitVec 64) (w : Nat) : List Byte :=
  (List.range w).map fun i => points.extractLsb' (8 * i) 8

/-! ### Stuffing (R68) -/

/-- The body bits as they go on the line, after a run of `run` bits of `level`: after four equal bits one of the other level is
put in, before the end bit too. -/
def stuff (level : Level) (run : Nat) : List Level → List Level
  | [] => if run = Config.stuffRun then [(!level)] else []
  | b :: bs =>
    if run = Config.stuffRun then
      (!level) :: b :: stuff b (if b = !level then 2 else 1) bs
    else b :: stuff b (if b = level then run + 1 else 1) bs

/-- A frame on the line: start bit, stuffed body, end bit (R67, R68). -/
def lineBits (body : List Byte) : List Level :=
  dominant :: stuff dominant 1 (bitsOfBytes body) ++ [dominant]

/-! ### Codes (R105, R122, R149, R170, R171) -/

/-- The number of a check (R151). -/
def CheckReason.number : CheckReason → Nat
  | .imageCheck => 1
  | .version => 2
  | .stationRange => 3
  | .rate => 4
  | .period => 5
  | .cadence => 6
  | .width => 7
  | .pointMap => 8
  | .termShape => 9
  | .literalRange => 10
  | .outputSource => 11
  | .grace => 12
  | .listenRange => 13

/-- The STATE detail code of a stop reason (R122, R171). -/
def StopReason.code : StopReason → Nat
  | .check r => 0x60 + r.number
  | .line .stuck => 0x50
  | .line .tx => 0x51

/-- The code of a station state (R105). -/
def Station.code : Station → Nat
  | .loading => 0
  | .configFault _ => 1
  | .listen _ => 2
  | .active => 3
  | .withdrawn => 4
  | .duplicate => 5
  | .lineFault _ => 6

/-- The fault reason of a station state, none outside CONFIG_FAULT and LINE_FAULT (R104). -/
def Station.fault : Station → Option StopReason
  | .configFault r => some (.check r)
  | .lineFault r => some (.line r)
  | .loading | .listen _ | .active | .withdrawn | .duplicate => none

/-- The event mask bit of an event kind (R149). -/
def EventKind.bit : EventKind → Nat
  | .termOn => 0
  | .termOff => 1
  | .memberNew => 2
  | .memberReturned => 3
  | .memberRecovered => 4
  | .memberLate => 5
  | .memberAbsent => 6
  | .memberLeft => 7
  | .tagChanged => 8
  | .poolShort => 9
  | .repacked => 10
  | .state => 11
  | .input => 12

/-- The code of a last result in the status byte (R170). -/
def TapResult.code : TapResult → Nat
  | .none => 0
  | .accepted => 1
  | .refused => 2
  | .malformed => 3

/-- The six bytes of an event record (R170). -/
def Event.bytes (e : Event) : List Byte :=
  [byteOf (e.kind.bit + 1), e.subject] ++ bytes16 e.stamp.toNat ++
    bytes16 ((if e.afterLoss then 0x8000 else 0) + e.detail.toNat)

/-- Reasons of STATE events at entries to LOADING (R122). -/
def detailPowerOn : Nat := 0x00
def detailResetPin : Nat := 0x01
def detailRestart : Nat := 0x02
def detailLoadConfig : Nat := 0x03

/-- Reasons of STATE events at entries to LISTEN, ACTIVE, WITHDRAWN and DUPLICATE (R122). -/
def detailConfigGood : Nat := 0x10
def detailRejoined : Nat := 0x11
def detailDuplicateClear : Nat := 0x12
def detailLineClear : Nat := 0x13
def detailListenDone : Nat := 0x20
def detailLeaveSent : Nat := 0x30
def detailLeaveLost : Nat := 0x31
def detailSighting : Nat := 0x40

end Sys2Proof.Machine
end

