-- ==== Sys2Proof/Machine/Ops.lean ====
section
/-! DEFINITION. The named operations over the state that the meanings share: the roster, the event queue, the outputs, a change
of station state, the entry to LOADING. -/

namespace Sys2Proof.Machine

/-! ### Station states (R49, R72, R105) -/

/-- A state in which the round timer runs and marks are sent when due (R49, R50). -/
def Station.timing : Station → Bool
  | .listen _ | .active | .withdrawn | .duplicate => true
  | .loading | .configFault _ | .lineFault _ => false

/-- A running state of the frame receiver, and one that has closes (R72, R111). -/
def Station.receives : Station → Bool
  | .listen _ | .active | .withdrawn | .duplicate | .lineFault .tx => true
  | .loading | .configFault _ | .lineFault .stuck => false

/-- A state in which the outputs follow their terms (R136). -/
def Station.followsTerms : Station → Bool
  | .active | .withdrawn => true
  | .loading | .configFault _ | .listen _ | .duplicate | .lineFault _ => false

/-- LOADING or CONFIG_FAULT: no configuration is held (R122, R163). -/
def Station.unconfigured : Station → Bool
  | .loading | .configFault _ => true
  | .listen _ | .active | .withdrawn | .duplicate | .lineFault _ => false

/-- A state whose entry clears the withdrawal-pending flag (R117). -/
def Station.endsWithdrawal : Station → Bool
  | .withdrawn | .duplicate | .lineFault _ | .loading => true
  | .configFault _ | .listen _ | .active => false

/-! ### Counters -/

/-- Changes the station counters. -/
def State.count (f : Counters → Counters) (s : State) : State := { s with cnt := f s.cnt }

/-- A count bumped 16 bits wide and saturating (R64, R87, R102). -/
def Counters.bumpCloses (c : Counters) : Counters := { c with closes := bump16 c.closes }
def Counters.bumpCutCloses (c : Counters) : Counters := { c with cutCloses := bump16 c.cutCloses }
def Counters.bumpOverruns (c : Counters) : Counters := { c with overruns := bump16 c.overruns }
def Counters.bumpMarksSent (c : Counters) : Counters := { c with marksSent := bump16 c.marksSent }
def Counters.bumpSlips (c : Counters) : Counters := { c with slips := bump16 c.slips }
def Counters.bumpOutOfSlot (c : Counters) : Counters := { c with outOfSlot := bump16 c.outOfSlot }
def Counters.bumpAfterClose (c : Counters) : Counters := { c with afterClose := bump16 c.afterClose }
def Counters.bumpBeyondWalk (c : Counters) : Counters := { c with beyondWalk := bump16 c.beyondWalk }
def Counters.bumpGood (c : Counters) : Counters := { c with good := bump16 c.good }
def Counters.bumpRepeats (c : Counters) : Counters := { c with repeats := bump16 c.repeats }
def Counters.bumpFramesSent (c : Counters) : Counters := { c with framesSent := bump16 c.framesSent }
def Counters.bumpAttemptsLost (c : Counters) : Counters := { c with attemptsLost := bump16 c.attemptsLost }
def Counters.bumpCollisions (c : Counters) : Counters := { c with collisions := bump16 c.collisions }
def Counters.bumpMissedTurns (c : Counters) : Counters := { c with missedTurns := bump16 c.missedTurns }
def Counters.bumpSkippedCopies (c : Counters) : Counters := { c with skippedCopies := bump16 c.skippedCopies }

/-- The twenty-one counters in the order READ COUNTERS returns them (R159, R171). -/
def Counters.toList (c : Counters) : List Nat :=
  [ c.closes, c.cutCloses, c.overruns, c.marksSent, c.slips, c.outOfSlot, c.afterClose, c.beyondWalk,
    c.good, c.badStuff, c.badShort, c.badDisturbed, c.badFraming, c.badCheck, c.badHeader, c.repeats,
    c.framesSent, c.attemptsLost, c.collisions, c.missedTurns, c.skippedCopies ]

/-! ### The roster and the allocation table -/

/-- All station numbers, ascending. -/
def stations : List StationNo := List.finRange 32

/-- Member record `n`. -/
def State.member (s : State) (n : StationNo) : Member := s.img.roster.get n

/-- Replaces member record `n`. -/
def State.setMember (n : StationNo) (r : Member) (s : State) : State :=
  { s with img := { s.img with roster := s.img.roster.set n.val r } }

/-- A roster record by record. -/
def mapRoster (f : StationNo → Member → Member) (r : Roster) : Roster := Vector.ofFn fun n => f n (r.get n)

/-- The free pointer: the sum of the lengths (R11). -/
def freePointer (table : List Entry) : Nat := (table.map (·.length)).sum

/-- The entry of a station, if it holds one (R11: at most one). -/
def entryOf (table : List Entry) (n : StationNo) : Option Entry := table.find? fun e => e.station == n

/-- The presence that follows from age, cadence and grace (R3). -/
def presenceOf (age : Nat) (c : Cadence) (grace : Nat) : Presence :=
  if age < c.rounds then .present
  else if age < c.rounds * grace then .late
  else .absent

/-- A record is PRESENT or LATE. -/
def Member.onLine (r : Member) : Bool :=
  match r.presence with
  | .present | .late => true
  | .unseen | .absent => false

/-- A record is ABSENT or UNSEEN (R112, R114). -/
def Member.gone (r : Member) : Bool := !r.onLine

/-- A LEAVE frame's effect on a record: R5 for a peer, R6 for the own number. -/
def Member.departed (r : Member) : Member :=
  match r.presence with
  | .unseen => r
  | .present | .late | .absent => { r with age := 255, presence := .absent, reason := some .left }

/-! ### The event queue (R163) -/

/-- Whether an event of a kind is placed at all: the mask judges it while a configuration is held (R163). -/
def State.allows (s : State) (kind : EventKind) : Bool :=
  match s.ldr.config with
  | none => true
  | some cfg => cfg.mask.getLsbD kind.bit

/-- An event placed according to the room in the queue (R163). -/
def Tap.place (t : Tap) (e : Event) : Tap :=
  if t.queue.length < Config.queueRoom then
    { t with queue := t.queue ++ [{ e with afterLoss := t.lossMark }], lossMark := false }
  else { t with lostEvents := bump16 t.lostEvents, lossMark := true }

/-- A block posts an event (R163); the round stamp is the round count at posting. -/
def State.post (kind : EventKind) (subject detail : Nat) (s : State) : State :=
  if s.allows kind then
    { s with
      tap := s.tap.place
        { kind := kind, subject := byteOf subject, stamp := s.trk.round, detail := BitVec.ofNat 10 detail,
          afterLoss := false } }
  else s

/-- Events posted in the order of the list: kind, subject, detail. -/
def State.postAll (events : List (EventKind × Nat × Nat)) (s : State) : State :=
  events.foldl (fun s e => s.post e.1 e.2.1 e.2.2) s

/-! ### The outputs (R136) -/

/-- The level of an output under its record, the station state and the held term values (R136, in the states that hold a
configuration). -/
def outputLevel (station : Station) (held : BitVec 16) (r : OutputRecord) : Bool :=
  if station.followsTerms then
    match r.source with
    | none => r.safe
    | some j => held.getLsbD j.val != r.invert
  else r.safe

/-- The eight levels that R136 gives: all 0 while no configuration is held. -/
def outputLevels (station : Station) (config : Option Configuration) (held : Option (BitVec 16)) : BitVec 8 :=
  match station.unconfigured, config with
  | false, some cfg => bitsOf (fun i => outputLevel station (held.getD 0) (cfg.outputs.get (Fin.ofNat 8 i))) 8
  | _, _ => 0

/-- The output driver brings all eight levels to what the table of R136 gives (R138, R139). -/
def State.setOutputs (s : State) : State :=
  { s with drv := { s.drv with levels := outputLevels s.ctl.station s.ldr.config s.drv.held } }

/-! ### A change of station state (R122, R123, R139) -/

/-- The station controller's fields at an entry to a state: the state, the last stop reason where the state has a fault reason
(R123), the withdrawal-pending flag where the entry ends a withdrawal (R117). -/
def Controller.enter (c : Controller) (st : Station) : Controller :=
  { c with
    station := st
    lastStop := st.fault.or c.lastStop
    withdrawalPending := if st.endsWithdrawal then false else c.withdrawalPending }

/-- The sender returns to IDLE with the attempt's outcome settled or abandoned (R95–R97, R101). -/
def Sender.settle (t : Sender) : Sender :=
  { t with attempt := .idle, kind := none, buffer := none, driven := 0 }

/-- The sender at an entry to a state: no attempt is carried out of ACTIVE (R103). -/
def Sender.enter (t : Sender) (st : Station) : Sender := if st = .active then t else t.settle

/-- The station moves to a state: the controller's fields and the sender's. -/
def State.moveTo (st : Station) (s : State) : State := { s with ctl := s.ctl.enter st, tx := s.tx.enter st }

/-- The station enters a state: the controller's fields, the STATE event (R122), the outputs (R139). -/
def State.enter (st : Station) (detail : Nat) (s : State) : State :=
  (State.post .state st.code detail (s.moveTo st)).setOutputs

/-- The consecutive-loss count becomes 0 (R88). -/
def State.clearLosses (s : State) : State := { s with tx := { s.tx with losses := 0 } }

/-- The move to LISTEN: listen count 0 (R112), consecutive-loss count 0 (R88). -/
def State.moveToListen (s : State) : State := s.clearLosses.moveTo (.listen 0)

/-- Every entry to LISTEN (R88, R112). -/
def State.enterListen (detail : Nat) (s : State) : State := s.clearLosses.enter (.listen 0) detail

/-- The round timer stops and the mark-due flag clears (R49). -/
def RoundTracker.stopTimer (t : RoundTracker) : RoundTracker := { t with timer := .stopped, markDue := false }

/-- Entry to LINE_FAULT with reason TX, from a fourth loss (R119) or from a stuck line that clears (R121): the timer is stopped
(R63) and a mark being driven is released (R50). -/
def State.enterTxFault (s : State) : State :=
  State.enter (.lineFault .tx) (StopReason.code (.line .tx))
    { s with
      ctl := { s.ctl with txHeld := true }
      trk := s.trk.stopTimer
      line := { s.line with mark := none } }

/-! ### The entry to LOADING (R1, R27, R41, R63, R80, R88, R104, R135, R155) -/

/-- The part with every block at its power-on values, out of the reset condition; what lies outside the part stays: the pins,
the strap's held sample, the line, the memory and the contacts, the waiting commands. -/
def State.cleared (s : State) : State :=
  { State.reset with
    power := .running
    strap := s.strap
    tapSelectLow := s.tapSelectLow
    inputPins := s.inputPins
    lineIn := s.lineIn
    cfgIn := s.cfgIn
    contactIn := s.contactIn
    pending := s.pending }

/-- The loader at an entry to LOADING that begins a load from the source the held strap value gives (R142, R143). READING takes the
memory's chip select low and has command and address to send (R144); `again` says that a read is cut short, whose chip select goes
high first (R147). -/
def Loader.begin (again : Bool) : Strap → Loader
  | .memory =>
    { phase := .reading, buffer := [], config := none, command := Config.memoryRead, selectLow := !again }
  | .tap => { Loader.reset with phase := .waiting }

/-- The STATE event for an entry to LOADING (R106, R109, R110). -/
def State.postLoading (detail : Nat) (s : State) : State := s.post .state (Station.code .loading) detail

/-- Entry to LOADING as the reset condition ends: the strap is sampled and the load begins (R106, R142, R143). -/
def State.boot (strap : Strap) (detail : Nat) (s : State) : State :=
  State.postLoading detail
    { s.cleared with strap := strap, ldr := Loader.begin false strap }

/-! ### Own points (R21) -/

/-- Own point `i` is live: below 8 × own width (R21). -/
def Configuration.live (cfg : Configuration) (i : Nat) : Bool := decide (i < 8 * cfg.width)

/-- The source of own point `i` (R150). -/
def Configuration.source (cfg : Configuration) (i : Nat) : PointSource := cfg.points.get (Fin.ofNat 64 i)

/-- The own points with those of the live points changed whose source `f` gives a level for. -/
def updateOwn (cfg : Configuration) (own : BitVec 64) (f : PointSource → Option Bool) : BitVec 64 :=
  bitsOf (fun i => if cfg.live i then (f (cfg.source i)).getD (own.getLsbD i) else own.getLsbD i) 64

/-! ### Turns and losses (R89, R90, R97) -/

/-- The round of this count is one of the station's turns for DATA (R89). -/
def dueRound (cfg : Configuration) (round : BitVec 16) : Bool :=
  decide (round.toNat % cfg.cadence.rounds = cfg.phase)

/-- A turn is due: ACTIVE, and a withdrawal pending or the round one of the station's own (R90). -/
def State.turnDue (cfg : Configuration) (s : State) : Bool :=
  decide (s.ctl.station = .active) && (s.ctl.withdrawalPending || dueRound cfg s.trk.round)

/-- The own slot of this walk has passed unopened: a missed turn is counted where a turn was due (R90). -/
def State.passedUnopened (cfg : Configuration) (s : State) : State :=
  if s.turnDue cfg then s.count Counters.bumpMissedTurns else s

/-- A lost attempt (R97, R98, R119): the counters, and the state the loss leads to. -/
def State.attemptLost (s : State) : State :=
  let losses := min Config.lossLimit (s.tx.losses + 1)
  let t := State.count Counters.bumpAttemptsLost { s with tx := { s.tx.settle with losses := losses } }
  if losses = Config.lossLimit then t.enterTxFault
  else if s.tx.kind = some .leave then t.enter .withdrawn detailLeaveLost
  else t

end Sys2Proof.Machine
end

