-- ==== Sys2Proof/Machine/Flags.lean ====
section
/-! DEFINITION. The flags and pins that are computed from the state: the POOL and STALE flags, ATTN, the transceiver pins, the
status byte. -/

namespace Sys2Proof.Machine

/-- The POOL sender flag: some record is TRUNCATED or UNPLACED, whatever its presence (R14). -/
def State.poolFlag (s : State) : Bool :=
  stations.any fun n => match (s.member n).placement with
    | .truncated | .unplaced => true
    | .none | .full => false

/-- The STALE flag after a close: some term of the table was resolved by its policy (R41). -/
def staleAfter (terms : Vector TermState 16) (count : Nat) : Bool :=
  (List.finRange 16).any fun j => decide (j.val < count) && (terms.get j).byPolicy

/-- ATTN is asserted: the queue holds an entry, outside the reset condition (R165). The pin is low then (R172). -/
def State.attn (s : State) : Bool := decide (s.power = .running) && !s.tap.queue.isEmpty

/-- The transceiver enable LTE (R105). -/
def State.lte (s : State) : Bool := !s.ctl.station.unconfigured

/-- The bits of the own frame as they go on the line (R68). -/
def Sender.line (t : Sender) : List Level := lineBits (t.buffer.getD [])

/-- The level this station puts on the transmit pin LTX: dominant while a mark is driven; while DRIVING the frame's bit of the latest
bit time, the start bit first; recessive otherwise (R50, R93, R105, R172). -/
def State.ltx (s : State) : Level :=
  match s.line.mark, s.tx.attempt with
  | some _, _ => dominant
  | none, .driving => s.tx.line.getD (s.tx.driven - 1) recessive
  | none, .idle => recessive
  | none, .takenOver => recessive

/-- The memory is being read: READING with its chip select low (R144). -/
def State.reads (s : State) : Bool := decide (s.ldr.phase = .reading) && s.ldr.selectLow

/-- The levels a transaction shifts out before the 00h bytes that follow: the status byte, 00h for each argument byte, the response once
it is fixed (R156). Most significant bits first. -/
def Opened.output (status : Byte) (o : Opened) : List Level :=
  bitsOfByte status ++ List.replicate (8 * o.args.length) false ++ bitsOfBytes ((o.latch.map (·.response)).getD [])

/-- The station is driving the line (R50). -/
def State.drives (s : State) : Bool := s.line.mark.isSome || decide (s.tx.attempt = .driving)

/-- The configuration memory's chip select CFG_CS is high: outside READING, and between a read cut short and the one after it (R144,
R147). -/
def State.cfgSelectHigh (s : State) : Bool := !s.reads

/-- The memory's clock CFG_CLK at half period `half`, 0–15, of a byte time: low in the first half of each bit's period and high in the
second while the memory is read, one period per eight reference clocks in clock mode 0; low otherwise (R144; log 11). -/
def State.cfgClk (half : Nat) (s : State) : Level := s.reads && decide (half % 2 = 1)

/-- The loader's data output CFG_DO at clock period `bit`, 0–7, of a byte time: the bits of the read command and the address, most
significant first; a level the spec does not give while data is clocked in (log 21); low while the memory is not read (R144). -/
def State.cfgDo (bit : Nat) (s : State) : Level :=
  s.reads && match s.ldr.command with
    | b :: _ => b.getLsbD (7 - bit)
    | [] => Config.cfgDataLevel s.ldr.buffer.length bit

/-- The tap's data output TAP_DO (R156, R172): released (`none`) while TAP_CS is high and in the reset condition; otherwise driven, in a
transaction at the level the next clock period shifts out, outside one at a level the spec does not give (log 21). -/
def State.tapDo (s : State) : Option Level :=
  if s.power = .running ∧ s.tapSelectLow = true then
    match s.tap.trans with
    | .idle => some Config.tapIdleLevel
    | .opened o => some ((o.output s.tap.status).getD s.tap.dout.length false)
  else none

/-- The station is unsynchronised: LISTEN with the walk IDLE (R58). -/
def State.unsynchronised (s : State) : Bool :=
  match s.ctl.station, s.trk.walk with
  | .listen _, .idle => true
  | _, _ => false

/-- The status byte (R157, R170). -/
def State.statusByte (s : State) : Byte :=
  byteOf
    (s.ctl.station.code * 32 + s.attn.toNat * 16 + s.tap.lastResult.code * 4 + s.ctl.withdrawalPending.toNat * 2
      + s.img.repackPending.toNat)

end Sys2Proof.Machine
end

