-- ==== Sys2Proof/Machine/Image.lean ====
section
/-! DEFINITION. The image store (Chapter 1): refreshing and departing, allocation, points, aging, repack, literal resolution. -/

namespace Sys2Proof.Machine

/-! ### A valid DATA frame from a peer (R4, R12, R13, R81–R84) -/

/-- A repeat: the station's counter and the record's count (R81, R82). -/
def State.countRepeat (n : StationNo) (s : State) : State :=
  State.count Counters.bumpRepeats
    (s.setMember n { s.member n with repeats := add8 (s.member n).repeats 1 })

/-- The sequence difference d, when the sequence check runs: not for an UNSEEN or ABSENT record (R82). -/
def Member.seqDiff (r : Member) (seq : BitVec 6) : Option Nat :=
  if r.onLine then r.lastSeq.map fun last => (seq - last).toNat else none

/-- Step 3 of R4: the record as the frame leaves it, its missed count raised by the gap (R82, R84). -/
def Member.refreshed (r : Member) (h : Header) : Member :=
  { r with
    presence := .present
    reason := none
    age := 0
    cadence := some h.cadence
    width := some h.width
    lastSeq := some h.seq
    tag := some h.tag
    flags := some h.flags
    heard := true
    missed := add8 r.missed ((r.seqDiff h.seq).getD 1 - 1) }

/-- The presence event of a refresh (R9); none for a record that was PRESENT. -/
def refreshEvent (before : Presence) (n : StationNo) : List (EventKind × Nat × Nat) :=
  match before with
  | .unseen => [(.memberNew, n.val, 0)]
  | .absent => [(.memberReturned, n.val, 0)]
  | .late => [(.memberRecovered, n.val, 0)]
  | .present => []

/-- The tag comparison finds a difference: the record was PRESENT or LATE and held another tag (R83). -/
def Member.tagDiffers (r : Member) (tag : BitVec 10) : Bool :=
  r.onLine && match r.tag with
    | some old => decide (old ≠ tag)
    | none => false

/-- Step 4 of R4: the tag-change count and TAG_CHANGED (R83). -/
def State.noteTag (n : StationNo) (before : Member) (tag : BitVec 10) (s : State) : State :=
  if before.tagDiffers tag then
    (s.setMember n { s.member n with tagChanges := add8 (s.member n).tagChanges 1 }).post .tagChanged n.val tag.toNat
  else s

/-- The placement and the length appended for a wanted size in the free space (R12). -/
def placementFor (free wanted : Nat) : Placement × Nat :=
  if wanted ≤ free then (.full, wanted)
  else if 0 < free then (.truncated, free)
  else (.unplaced, 0)

/-- The table with an entry of this length at its end; none for length 0 (R12). -/
def appendEntry (table : List Entry) (n : StationNo) (len : Nat) : List Entry :=
  if len = 0 then table else table ++ [{ station := n, offset := freePointer table, length := len }]

/-- Allocation at first sighting (R12). -/
def State.allocate (n : StationNo) (wanted : Nat) (s : State) : State :=
  let p := placementFor (Config.poolPoints - freePointer s.img.table) wanted
  let t := State.setMember n { s.member n with placement := p.1 }
    { s with img := { s.img with table := appendEntry s.img.table n p.2 } }
  if p.1 = .full then t else t.post .poolShort n.val p.2

/-- The pool with a frame's points written into an entry: positions below min(w, len) take level and supplied flag, positions w
to len − 1 lose their supplied flag (R13). -/
def Pool.write (p : Pool) (e : Entry) (w : Nat) (points : List Byte) : Pool :=
  { levels := bitsOf (fun i =>
      if e.offset ≤ i ∧ i < e.offset + min w e.length then pointOf points (i - e.offset) else p.levels.getLsbD i) 512
    supplied := bitsOf (fun i =>
      if e.offset ≤ i ∧ i < e.offset + e.length then decide (i - e.offset < w) else p.supplied.getLsbD i) 512 }

/-- Writing points, with the placement that each written frame updates (R13). -/
def State.writePoints (n : StationNo) (w : Nat) (points : List Byte) (s : State) : State :=
  match entryOf s.img.table n with
  | none => s
  | some e =>
    let before := (s.member n).placement
    let after : Placement := if w ≤ e.length then .full else .truncated
    let t := State.setMember n { s.member n with placement := after }
      { s with img := { s.img with pool := s.img.pool.write e w points } }
    if before = .full ∧ after = .truncated then t.post .poolShort n.val e.length else t

/-- A refresh: steps 3 to 6 of R4. -/
def State.refreshRecord (h : Header) (points : List Byte) (s : State) : State :=
  let n := h.station
  let before := s.member n
  let s1 := (s.setMember n (before.refreshed h)).postAll (refreshEvent before.presence n)
  let s2 := s1.noteTag n before h.tag
  let s3 := if (s2.member n).placement = .none then s2.allocate n (8 * h.width) else s2
  s3.writePoints n (8 * h.width) points

/-- A valid DATA frame from a peer (R4, R81, R82): a repeat by the heard flag or by its sequence is counted and discarded. -/
def State.peerData (h : Header) (points : List Byte) (s : State) : State :=
  let r := s.member h.station
  if r.heard || decide (r.seqDiff h.seq = some 0) then s.countRepeat h.station else s.refreshRecord h points

/-! ### A valid LEAVE frame from a peer (R5) -/

/-- A valid LEAVE frame from a peer (R5, R85). -/
def State.peerLeave (n : StationNo) (s : State) : State :=
  let r := s.member n
  if r.presence = .unseen ∨ (r.presence = .absent ∧ r.reason = some .left) then s
  else (s.setMember n r.departed).post .memberLeft n.val 255

/-! ### A frame carrying the own number (R6) -/

/-- The own-number record at a sighting (R6). -/
def Member.sighted (r : Member) (kind : FrameKind) (cadence : Cadence) : Member :=
  match kind with
  | .data =>
    if r.heard then r
    else { r with heard := true, age := 0, cadence := some cadence, presence := .present, reason := none }
  | .leave => r.departed

/-! ### Aging (R8) -/

/-- Whether a record is exempt from aging at a cut close: its number is greater than the cursor (R8, R56). -/
def exemptUnder (cut : Option Cursor) (n : StationNo) : Bool :=
  match cut with
  | none => false
  | some .beforeZero => true
  | some (.slot c) => decide (c < n)

/-- A record's age advanced by one, its presence recomputed (R3, R8). -/
def Member.older (grace : Nat) (r : Member) : Member :=
  let p := presenceOf (r.age + 1) (r.cadence.getD .one) grace
  { r with age := r.age + 1, presence := p, reason := if p = .absent then some (r.reason.getD .silent) else none }

/-- A record after step 1 of a close: aged where the four conditions of R8 hold, its heard flag clear (R7). -/
def Member.closed (grace : Nat) (exempt : Bool) (r : Member) : Member :=
  let aged := if r.presence ≠ .unseen ∧ !r.heard ∧ r.age < 255 ∧ !exempt then r.older grace else r
  { aged with heard := false }

/-- The presence event that aging posts (R9). -/
def agingEvent (n : StationNo) (before after : Member) : List (EventKind × Nat × Nat) :=
  match before.presence, after.presence with
  | .present, .late => [(.memberLate, n.val, after.age)]
  | .late, .absent => [(.memberAbsent, n.val, after.age)]
  | _, _ => []

/-- Step 1 of a close: aging and the heard flags (R7, R8). -/
def State.ageAll (cfg : Configuration) (cut : Option Cursor) (s : State) : State :=
  { s with img := { s.img with roster := mapRoster (fun n r => r.closed cfg.grace (exemptUnder cut n)) s.img.roster } }

/-- The events of aging, in ascending number and none for the own number (R9). -/
def State.agingEvents (cfg : Configuration) (aged s : State) : List (EventKind × Nat × Nat) :=
  (stations.filter (· ≠ cfg.own)).flatMap fun n => agingEvent n (s.member n) (aged.member n)

/-! ### Repack (R16–R19) -/

/-- A repack is due (R16). -/
def State.repackDue (cfg : Configuration) (s : State) : Bool :=
  s.img.repackPending ||
    (!s.img.table.isEmpty && (stations.filter (· ≠ cfg.own)).all fun n => (s.member n).gone)

/-- One kept member placed in the new table (R17). -/
def rebuildStep (roster : Roster) (table : List Entry) (n : StationNo) : List Entry :=
  appendEntry table n
    (placementFor (Config.poolPoints - freePointer table) (8 * ((roster.get n).width.getD 0))).2

/-- The new allocation table: every PRESENT or LATE peer in ascending number (R17). -/
def rebuildTable (cfg : Configuration) (roster : Roster) : List Entry :=
  (stations.filter fun n => decide (n ≠ cfg.own) && (roster.get n).onLine).foldl (rebuildStep roster) []

/-- The placement of a kept member in a table (R17): by its entry's length against its recorded width. -/
def placementIn (table : List Entry) (n : StationNo) (r : Member) : Placement :=
  match entryOf table n with
  | none => .unplaced
  | some e => if 8 * r.width.getD 0 ≤ e.length then .full else .truncated

/-- POOL_SHORT for a member placed TRUNCATED or UNPLACED, with the points placed (R17). -/
def repackEvent (table : List Entry) (n : StationNo) (r : Member) : List (EventKind × Nat × Nat) :=
  match placementIn table n r with
  | .truncated | .unplaced => [(.poolShort, n.val, ((entryOf table n).map (·.length)).getD 0)]
  | .none | .full => []

/-- What a pool point holds after the move: the level and flag its position held in the member's old entry, or 0 and
unsupplied (R18). -/
def movedFrom (old new : List Entry) (i : Nat) : Option Nat :=
  match new.find? fun e => decide (e.offset ≤ i ∧ i < e.offset + e.length) with
  | none => none
  | some e => match entryOf old e.station with
    | none => none
    | some o => if i - e.offset < o.length then some (o.offset + (i - e.offset)) else none

/-- The pool after the move, made as one change (R18). -/
def Pool.moved (p : Pool) (old new : List Entry) : Pool :=
  { levels := bitsOf (fun i => ((movedFrom old new i).map p.levels.getLsbD).getD false) 512
    supplied := bitsOf (fun i => ((movedFrom old new i).map p.supplied.getLsbD).getD false) 512 }

/-- A record after a repack: ABSENT returns to UNSEEN (R19), a kept peer takes its placement in the new table (R17). -/
def Member.repacked (own : StationNo) (table : List Entry) (n : StationNo) (r : Member) : Member :=
  match r.presence with
  | .absent => Member.unseen
  | .unseen => r
  | .present | .late => if n = own then r else { r with placement := placementIn table n r }

/-- A repack (R17–R19). -/
def State.repack (cfg : Configuration) (s : State) : State :=
  let table := rebuildTable cfg s.img.roster
  { s with
    img := { s.img with
      roster := mapRoster (Member.repacked cfg.own table) s.img.roster
      table := table
      pool := s.img.pool.moved s.img.table table
      repackPending := false } }

/-- Step 2 of a close (R7, R16). -/
def State.repackIfDue (cfg : Configuration) (s : State) : State := if s.repackDue cfg then s.repack cfg else s

/-- The events of a repack: POOL_SHORT in ascending number, then REPACKED (R17, R19). -/
def State.repackEvents (cfg : Configuration) (s : State) : List (EventKind × Nat × Nat) :=
  let table := rebuildTable cfg s.img.roster
  ((stations.filter fun n => decide (n ≠ cfg.own) && (s.member n).onLine).flatMap fun n =>
    repackEvent table n (s.member n)) ++ [(.repacked, table.length, freePointer table)]

/-! ### Literal resolution (R22, R23) -/

/-- A level under a sense (R22). -/
def Sense.apply : Sense → Bool → Tri
  | .trueWhenHigh, true => .yes
  | .trueWhenHigh, false => .no
  | .trueWhenLow, true => .no
  | .trueWhenLow, false => .yes

/-- A literal's answer: own literals from the close snapshot (R22), the others from the image (R23). -/
def resolve (cfg : Configuration) (snapshot : BitVec 64) (img : Image) (l : Literal) : Tri :=
  if l.station = cfg.own then l.sense.apply (snapshot.getLsbD l.point.val)
  else if !(img.roster.get l.station).onLine then .unknown
  else match entryOf img.table l.station with
    | none => .unknown
    | some e =>
      if l.point.val < e.length ∧ img.pool.supplied.getLsbD (e.offset + l.point.val) then
        l.sense.apply (img.pool.levels.getLsbD (e.offset + l.point.val))
      else .unknown

end Sys2Proof.Machine
end

