-- ==== Sys2Proof/Machine/Terms.lean ====
section
/-! DEFINITION. The term engine (Chapter 2): raw values, unknown policies, phases and counts. -/

namespace Sys2Proof.Machine

/-- The value of a term in a phase: ON in ON and DISARMING (R27). -/
def Phase.value : Phase → Bool
  | .on | .disarming _ => true
  | .off | .arming _ => false

/-- How many of a literal list's answers are `t` (R31). -/
def tally (answers : List Tri) (t : Tri) : Nat := answers.countP (· == t)

/-- A term's raw value from its literals' answers (R32). -/
def rawValue (t : Term) (answers : List Tri) : Tri :=
  let yes := tally answers .yes
  let no := tally answers .no
  let unknown := tally answers .unknown
  match t.kind with
  | .all => if 1 ≤ no then .no else if 1 ≤ unknown then .unknown else .yes
  | .any => if 1 ≤ yes then .yes else if 1 ≤ unknown then .unknown else .no
  | .count => if t.k ≤ yes then .yes else if yes + unknown < t.k then .no else .unknown

/-- The effective value: the raw value, or what the unknown policy makes of it; none under HOLD (R33). -/
def effective (policy : Policy) (raw : Tri) : Option Bool :=
  match raw, policy with
  | .yes, _ => some true
  | .no, _ => some false
  | .unknown, .forceOn => some true
  | .unknown, .forceOff => some false
  | .unknown, .hold => none

/-- An effective TRUE (R35). -/
def Phase.onTrue (hold : Nat) : Phase → Phase
  | .off => if hold = 0 then .on else .arming 1
  | .arming c => if c + 1 > hold then .on else .arming (c + 1)
  | .on => .on
  | .disarming _ => .on

/-- An effective FALSE (R36). -/
def Phase.onFalse (release : Nat) : Phase → Phase
  | .on => if release = 0 then .off else .disarming 1
  | .disarming c => if c + 1 > release then .off else .disarming (c + 1)
  | .off => .off
  | .arming _ => .off

/-- A phase after one evaluated close (R33–R36). -/
def Phase.next (t : Term) (raw : Tri) (p : Phase) : Phase :=
  match effective t.policy raw with
  | some true => p.onTrue t.hold
  | some false => p.onFalse t.release
  | none => p

/-- A term state after one evaluated close (R33). -/
def TermState.next (t : Term) (raw : Tri) (st : TermState) : TermState :=
  { phase := st.phase.next t raw, lastRaw := raw, byPolicy := decide (raw = .unknown) }

/-- The event of one term at a close: TERM_ON or TERM_OFF at a change of value, detail 1 when the change came from the policy
(R38). -/
def termEvent (j : TermNo) (before after : TermState) : List (EventKind × Nat × Nat) :=
  if before.phase.value = after.phase.value then []
  else [(if after.phase.value then .termOn else .termOff, j.val, after.byPolicy.toNat)]

/-- The sixteen term states after a close: those of the table evaluated, the others as they were (R28, R30, R27). -/
def evaluate (cfg : Configuration) (snapshot : BitVec 64) (img : Image) (terms : Vector TermState 16) :
    Vector TermState 16 :=
  Vector.ofFn fun j => match cfg.terms[j.val]? with
    | none => terms.get j
    | some t => (terms.get j).next t (rawValue t (t.literals.map (resolve cfg snapshot img)))

/-- The values of the sixteen terms, one bit each (R27). -/
def termValues (terms : Vector TermState 16) : BitVec 16 :=
  bitsOf (fun j => (terms.get (Fin.ofNat 16 j)).phase.value) 16

/-- The levels of the term-sourced own points after a commit (R39). -/
def termLevel (values : BitVec 16) : PointSource → Option Bool
  | .term j => some (values.getLsbD j.val)
  | .constant _ | .input _ | .none => none

/-- The term engine's part of a close: evaluation, own points and STALE, held values (R30, R39, R41, R137). -/
def State.evaluateTerms (cfg : Configuration) (snapshot : BitVec 64) (s : State) : State :=
  let terms := evaluate cfg snapshot s.img s.eng.terms
  { s with
    eng := { terms := terms, stale := staleAfter terms cfg.terms.length }
    img := { s.img with own := s.img.own.map fun own => updateOwn cfg own (termLevel (termValues terms)) }
    drv := { s.drv with held := some (termValues terms) } }

/-- The events of one close's evaluation, in ascending term number (R38). -/
def termEvents (before after : Vector TermState 16) : List (EventKind × Nat × Nat) :=
  (List.finRange 16).flatMap fun j => termEvent j (before.get j) (after.get j)

end Sys2Proof.Machine
end

