-- ==== Sys2Proof/Machine/Inputs.lean ====
section
/-! DEFINITION. The contact inputs (Chapter 7): the tick and the acceptances due at it. -/

namespace Sys2Proof.Machine

/-- The group of an input (R124). -/
def groupOf (j : Fin 16) : Fin 4 := Fin.ofNat 4 (j.val / 4)

/-- The settle count of an input: 2 to the power of its group's settle code (R124). -/
def Configuration.settleCount (cfg : Configuration) (j : Fin 16) : Nat := 2 ^ (cfg.settle.get (groupOf j)).val

/-- The event enable of an input's group (R124). -/
def Configuration.inputEvents (cfg : Configuration) (j : Fin 16) : Bool := cfg.enables.getLsbD (groupOf j).val

/-- An acceptance is due: the candidate count has reached the settle count (R127). -/
def InputState.due (settle : Nat) (i : InputState) : Bool := decide (settle ≤ i.count)

/-- One input sampled (R127); the acceptance itself is INPUT_ACCEPTED's. -/
def InputState.sample (raw : Bool) (i : InputState) : InputState :=
  if raw = i.accepted then { i with count := 0 } else { i with count := i.count + 1 }

/-- One input after an acceptance (R127, R129): the accepted level takes the raw level, which differed from it. -/
def InputState.accept (settle : Nat) (i : InputState) : InputState :=
  if i.due settle then { accepted := !i.accepted, count := 0 } else i

/-- The level that an own point takes at the acceptances: the new level of its input, if that was accepted (R129). -/
def acceptedLevel (cfg : Configuration) (inputs : Vector InputState 16) : PointSource → Option Bool
  | .input j =>
    if (inputs.get j).due (cfg.settleCount j) then some (!(inputs.get j).accepted) else none
  | .constant _ => none
  | .term _ => none
  | .none => none

/-- The INPUT events of the acceptances, in ascending input number, for groups whose events are enabled (R130). -/
def acceptanceEvents (cfg : Configuration) (inputs : Vector InputState 16) : List (EventKind × Nat × Nat) :=
  (List.finRange 16).flatMap fun j =>
    if (inputs.get j).due (cfg.settleCount j) && cfg.inputEvents j then
      [(.input, j.val, (!(inputs.get j).accepted).toNat)]
    else []

/-- The accepted levels taken, by filters and own points together (R127, R129). -/
def State.takeLevels (cfg : Configuration) (inputs : Vector InputState 16) (s : State) : State :=
  { s with
    within := none
    inp := some (Vector.ofFn fun j => (inputs.get j).accept (cfg.settleCount j))
    img := { s.img with own := s.img.own.map fun own => updateOwn cfg own (acceptedLevel cfg inputs) } }

/-- Every acceptance due, together (R127, R129, R130). -/
def State.acceptInputs (cfg : Configuration) (inputs : Vector InputState 16) (s : State) : State :=
  State.postAll (acceptanceEvents cfg inputs) (s.takeLevels cfg inputs)

/-- Some acceptance is due. -/
def acceptanceDue (cfg : Configuration) (inputs : Vector InputState 16) : Bool :=
  (List.finRange 16).any fun j => (inputs.get j).due (cfg.settleCount j)

/-- The sixteen inputs sampled (R127). -/
def sampleAll (raw : BitVec 16) (inputs : Vector InputState 16) : Vector InputState 16 :=
  Vector.ofFn fun j => (inputs.get j).sample (raw.getLsbD j.val)

/-- TICK (R127): every input is sampled at one tick. An acceptance of an earlier tick that has not been taken is taken first
(log 9); where this tick's fall within the close to come, that is kept (R131; log 18). -/
def execTick (sample : Sample) (s : State) : Host.Outcome State Fault Refusal :=
  match s.ldr.config, s.inp with
  | some cfg, some inputs =>
    let t := s.acceptInputs cfg inputs
    .next { t with inputPins := sample.raw, inp := t.inp.map (sampleAll sample.raw), within := sample.within }
  | some _, none => .next { s with inputPins := sample.raw }
  | none, _ => .next { s with inputPins := sample.raw }

/-- INPUT_ACCEPTED (R129, R130): the acceptances due at the latest tick. -/
def execInputAccepted (s : State) : Host.Outcome State Fault Refusal :=
  match s.ldr.config, s.inp with
  | some cfg, some inputs => .next (s.acceptInputs cfg inputs)
  | some _, none => .next s
  | none, _ => .next s

end Sys2Proof.Machine
end

