-- ==== Sys2Proof/Machine/Close.lean ====
section
/-! DEFINITION. The close: the stages of R7, R30, R111, R138 and R161, one operation. -/

namespace Sys2Proof.Machine

/-- The station controller's part of a close: the listen count and the exit test of DUPLICATE (R111, R112, R114). -/
def State.controlAtClose (cfg : Configuration) (s : State) : State :=
  match s.ctl.station with
  | .listen count =>
    if (s.member cfg.own).gone then
      if cfg.listen ≤ count + 1 then s.moveTo .active
      else { s with ctl := { s.ctl with station := .listen (count + 1) } }
    else s
  | .duplicate => if (s.member cfg.own).gone then s.moveToListen else s
  | .loading => s
  | .configFault _ => s
  | .active => s
  | .withdrawn => s
  | .lineFault _ => s

/-- The STATE event of the station controller's part, where it enters a state (R112, R114, R122). -/
def State.controlEvents (cfg : Configuration) (s : State) : List (EventKind × Nat × Nat) :=
  match s.ctl.station with
  | .listen count =>
    if (s.member cfg.own).gone ∧ cfg.listen ≤ count + 1 then [(.state, Station.code .active, detailListenDone)] else []
  | .duplicate =>
    if (s.member cfg.own).gone then [(.state, Station.code (.listen 0), detailDuplicateClear)] else []
  | .loading => []
  | .configFault _ => []
  | .active => []
  | .withdrawn => []
  | .lineFault _ => []

/-- The copy that a close stages (R161). -/
def State.copy (s : State) : Copy :=
  { stamp := s.trk.round, roster := s.img.roster, table := s.img.table, pool := s.img.pool, own := s.img.own,
    terms := s.eng.terms, stale := s.eng.stale, levels := s.drv.levels }

/-- The tap stages its copy at the end of a close (R161). -/
def State.stageCopy (s : State) : State :=
  match s.tap.trans, s.tap.staged with
  | .idle, _ => { s with tap := { s.tap with published := s.copy } }
  | .opened _, none => { s with tap := { s.tap with staged := some s.copy } }
  | .opened _, some _ =>
    State.count Counters.bumpSkippedCopies { s with tap := { s.tap with staged := some s.copy } }

/-- The acceptances that the latest tick brought into this close (R131): what they change, their events apart. -/
def State.takeWithin (cfg : Configuration) (s : State) : State :=
  match s.within, s.inp with
  | some _, some inputs => s.takeLevels cfg inputs
  | some _, none => s
  | none, _ => s

/-- The events of a close with the INPUT events of the acceptances that fall within it at their place (R130, R131). -/
def State.withInputs (cfg : Configuration) (events : List (EventKind × Nat × Nat)) (s : State) :
    List (EventKind × Nat × Nat) :=
  match s.within, s.inp with
  | some k, some inputs => events.take k ++ acceptanceEvents cfg inputs ++ events.drop k
  | some _, none => events
  | none, _ => events

/-- The image store's and the term engine's stages of a close (R7, R29, R30): the snapshot of the own points is taken first, then come
acceptances that fall within the close (R131), aging, the repack where one is due, and the evaluation with the snapshot. -/
def State.evaluatedAtClose (cfg : Configuration) (cut : Option Cursor) (s : State) : State :=
  (((s.takeWithin cfg).ageAll cfg cut).repackIfDue cfg).evaluateTerms cfg (s.img.own.getD 0)

/-- The events of a close's stages, in the order they post them (R9, R17, R19, R38, R112, R114). -/
def State.closeEvents (cfg : Configuration) (cut : Option Cursor) (s : State) : List (EventKind × Nat × Nat) :=
  let aged := (s.takeWithin cfg).ageAll cfg cut
  let evaluated := s.evaluatedAtClose cfg cut
  State.agingEvents cfg aged s ++ (if aged.repackDue cfg then aged.repackEvents cfg else []) ++
    termEvents s.eng.terms evaluated.eng.terms ++ evaluated.controlEvents cfg

/-- The close work of every block: image store and term engine, then the station controller (R111), the outputs (R138), the tap's copy
(R161). The events of the stages are posted in their order: no stage reads the queue, and mask and round count stand throughout.
Acceptances that fall between snapshot and end write other own points than the commit does, and no term sees them (R131; log 18).
`cut` is the recorded cursor of a cut close (R56). -/
def State.closeWork (cfg : Configuration) (cut : Option Cursor) (s : State) : State :=
  (State.postAll (s.withInputs cfg (s.closeEvents cfg cut))
    ((s.evaluatedAtClose cfg cut).controlAtClose cfg)).setOutputs.stageCopy

/-- The walk becomes CLOSED, the cursor absent (R55, R56). -/
def RoundTracker.closeWalk (t : RoundTracker) : RoundTracker := { t with walk := .closed }

/-- A normal close (R55). -/
def State.closeNormal (cfg : Configuration) (s : State) : State :=
  State.closeWork cfg none (State.count Counters.bumpCloses { s with trk := s.trk.closeWalk })

/-- The cursor stands below a station number (R54: before 0 is less than every number). -/
def Cursor.below (c : Cursor) (n : StationNo) : Bool :=
  match c with
  | .beforeZero => true
  | .slot m => decide (m < n)

/-- A cut close with the recorded cursor (R56): a missed turn where the own slot passed unopened (R54, R90), judged in the state
the station is in as the cut falls (log 8). -/
def State.closeCut (cfg : Configuration) (cursor : Cursor) (s : State) : State :=
  let s1 := if cursor.below cfg.own then s.passedUnopened cfg else s
  State.closeWork cfg (some cursor)
    (State.count (fun c => c.bumpCloses.bumpCutCloses) { s1 with trk := s1.trk.closeWalk })

end Sys2Proof.Machine
end

