-- ==== Sys2Proof/Machine/Operands.lean ====
section
/-! DEFINITION. What the operands of commands mean: line levels taken by the frame receiver bit by bit, and the bits of a tap
transaction. -/

namespace Sys2Proof.Machine

/-! ### Line levels (R72–R76) -/

/-- The four kinds of bad frame that end a reception before its check (R77, steps 1 to 3). -/
inductive BadKind
  | stuff
  | short
  | disturbed
  | framing
deriving DecidableEq, Repr

/-- How a reception stands after a level: it goes on, its end bit has completed the body, it ended as a bad frame, or it is
dropped under a mark (R72). -/
inductive Taken
  | more (r : Receiver)
  | completed (body : List Byte)
  | bad (kind : BadKind)
  | dropped
deriving DecidableEq, Repr

/-- The bit of a body's first byte that stands at place `i` on the line, as a three-bit field's bit. -/
def fieldOf (bits : List Level) (i : Nat) : BitVec 3 :=
  bitsOf (fun k => bits.getD (i + 2 - k) false) 3

/-- The expected body length in bits, once the header has told it (R73): 6 bytes for a kind other than DATA, set when byte 0 is
complete; 6 + width code + 1 bytes for DATA, set when byte 1 is complete. -/
def expectedBits (bits : List Level) : Option Nat :=
  if bits.length < 8 then none
  else if fieldOf bits 5 ≠ FrameKind.code .data then some 48
  else if bits.length < 16 then none
  else some (8 * (6 + (fieldOf bits 10).toNat + 1))

/-- All expected body bits have arrived (R73). -/
def Receiver.bodyDone (r : Receiver) : Bool :=
  match expectedBits r.bits with
  | none => false
  | some n => decide (n ≤ r.bits.length)

/-- The receiver back in WAITING after a reception that ended at a bit of this level (R72). -/
def Receiver.idleAfter (level : Level) : Receiver := { Receiver.fresh with prevRecessive := level }

/-- One level taken by the receiver (R72–R76). -/
def Receiver.take (walk : Walk) (r : Receiver) (b : Level) : Taken :=
  match r.state with
  | .waiting =>
    if b = dominant ∧ r.prevRecessive then
      .more { r with state := .receiving, bits := [], level := dominant, runLength := 1, startWalk := walk,
                     ownMark := false, prevRecessive := false }
    else .more { r with prevRecessive := b }
  | .receiving =>
    if r.runLength = Config.stuffRun then
      if b ≠ r.level then .more { r with level := b, runLength := 1, prevRecessive := b }
      else if b = recessive then .bad .short
      else .more { r with state := .held, runLength := r.runLength + 1, prevRecessive := b }
    else if r.bodyDone then
      if b = dominant then .completed (bytesOfBits r.bits) else .bad .framing
    else
      .more { r with bits := r.bits ++ [b], level := b, runLength := if b = r.level then r.runLength + 1 else 1,
                     prevRecessive := b }
  | .held =>
    if b = dominant then
      if Config.markRun ≤ r.runLength + 1 then .dropped
      else .more { r with runLength := r.runLength + 1, prevRecessive := b }
    else .bad (if r.runLength = Config.stuffRun + 1 then .stuff else .disturbed)

/-- Levels taken one after another, up to the first that ends the reception; the levels must end there (`none` otherwise). -/
def Receiver.takeAll (walk : Walk) (r : Receiver) : List Level → Option Taken
  | [] => some (.more r)
  | b :: bs =>
    match r.take walk b with
    | .more r' => r'.takeAll walk bs
    | .completed body => if bs = [] then some (.completed body) else none
    | .bad kind => if bs = [] then some (.bad kind) else none
    | .dropped => if bs = [] then some .dropped else none

/-- The receiver after levels that leave a reception going on; unchanged where one would end it. -/
def Receiver.hear (walk : Walk) (r : Receiver) (levels : List Level) : Receiver :=
  match r.takeAll walk levels with
  | some (.more r') => r'
  | some (.completed _) => r
  | some (.bad _) => r
  | some .dropped => r
  | none => r

/-- The receiver at the first bit after a boundary or after the end of a mark: the latest level is recessive (R47, R57). -/
def Receiver.sawRecessive (r : Receiver) : Receiver := { r with prevRecessive := true }

/-- A running receiver has taken a recessive level (R72). -/
def State.sawRecessive (s : State) : State :=
  if s.ctl.station.receives then { s with rx := s.rx.sawRecessive } else s

/-! ### Bits of a tap transaction (R156) -/

/-- What a transaction has taken in once these bits have arrived, no known command complete (R155, R156): a code with the first byte, as
many arguments as the code takes (an unknown one takes none), and the bits of a byte of the command under way. -/
def Opened.ofBits (bits : List Level) : Opened :=
  match bytesOfBits bits with
  | [] => { Opened.fresh with spare := bits }
  | code :: rest =>
    let count := (tapArguments code.toNat).getD 0
    { code := some code, args := rest.take count
      spare := if rest.length < count then bits.drop (8 * (rest.length + 1)) else [], latch := none }

/-- The levels shifted out in the first `clocks` clock periods: what the transaction outputs, 00h beyond it (R156). -/
def Opened.shifted (status : Byte) (o : Opened) (clocks : Nat) : List Level :=
  (o.output status).take clocks ++ List.replicate (clocks - (o.output status).length) false

/-- The entries whose six bytes were all shifted out: they follow the status byte, the argument byte and the take count (R164). -/
def entriesTaken (take clocks : Nat) : Nat := min take ((clocks / 8 - 3) / 6)

/-- An open transaction stands so, after so many clock periods (R155, R156). -/
def State.transact (o : Opened) (clocks : Nat) (s : State) : State :=
  { s with tap := { s.tap with trans := .opened o, dout := o.shifted s.tap.status clocks } }

/-- Bits of a transaction arrive, the first `clocks` of those not taken in yet, and as many levels go out (R156). `bits` are all the bits
of the command, code first, and `latch` is what is fixed with the last of them (none for a transaction that spells no known command).
Clock periods after the completion shift the response out, and what arrives in them is ignored. A transaction whose bits began
otherwise is not this one. -/
def State.arrive (bits : List Level) (latch : Option Latch) (clocks : Nat) (s : State) : State :=
  match s.tap.trans with
  | .idle => s
  | .opened o =>
    let before := s.tap.dout.length
    let after := before + clocks
    if o.latch.isSome then
      if o = { Opened.ofBits bits with latch := o.latch } then s.transact o after else s
    else if o = Opened.ofBits (bits.take before) then
      if bits.length ≤ after then s.transact { Opened.ofBits bits with latch := latch } after
      else s.transact (Opened.ofBits (bits.take after)) after
    else s

/-- The last result (R155). -/
def State.result (r : TapResult) (s : State) : State := { s with tap := { s.tap with lastResult := r } }

/-- Step 2 of R156: a staged copy becomes the published copy. -/
def State.publish (s : State) : State :=
  match s.tap.staged with
  | none => s
  | some c => { s with tap := { s.tap with published := c, staged := none } }

/-- Chip select rises, nothing in the transaction (R156). -/
def State.selectHigh (s : State) : State := { s with tapSelectLow := false }

/-- Steps 2 and 3 of R156: a staged copy is published, the transaction becomes IDLE. -/
def State.endTransaction (s : State) : State :=
  let t := s.publish
  State.selectHigh { t with tap := { t.tap with trans := .idle } }

/-- Chip select rises on a complete command after `clocks` further clock periods (R156): their levels go out, the command takes effect,
the staged copy is published, the transaction ends. A chip select that rises outside a transaction leaves only the pin changed; one
that would end a transaction holding another command than this does not come about. -/
def State.rise (bits : List Level) (clocks : Nat) (effect : Latch → State → State) (s : State) : State :=
  match s.tap.trans with
  | .idle => s.selectHigh
  | .opened o => match o.latch with
    | none => s
    | some l =>
      if o = { Opened.ofBits bits with latch := some l } then
        (effect l (s.transact o (s.tap.dout.length + clocks))).endTransaction
      else s

/-- A tap command, by the part of the transaction it stands for (R156, R159, R164): its response and take count are fixed as it
completes, its effect falls at chip select rising. -/
def State.tapCommand (code : Nat) (args : List Byte) (part : TapPart) (response : State → List Byte)
    (take : State → Nat) (effect : Latch → State → State) (s : State) : State :=
  let bits := bitsOfBytes (byteOf code :: args)
  let held : State := s.arrive bits (some { response := response s, take := take s }) (bits.length - s.tap.dout.length)
  match part with
  | .arriving clocks => s.arrive bits (some { response := response s, take := take s }) clocks
  | .complete => held
  | .rising clocks => s.rise bits clocks effect
  | .whole clocks => held.rise bits clocks effect

end Sys2Proof.Machine
end

