-- ==== Sys2Proof/Machine/Loader.lean ====
section
/-! DEFINITION. The configuration loader (Chapter 9): the ordered checks over the image, the configuration it holds, the entry to
LISTEN or CONFIG_FAULT; and the family of the reset and loading commands. -/

namespace Sys2Proof.Machine

/-! ### The image's fields (R169) -/

/-- Byte `i` of the image as a number. -/
def imgAt (img : List Byte) (i : Nat) : Nat := (img.getD i 0).toNat

/-- Fields of the station parameters (R148, R169). -/
def imgOwn (img : List Byte) : Nat := imgAt img 1
def imgHigh (img : List Byte) : Nat := imgAt img 2
def imgTermCount (img : List Byte) : Nat := imgAt img 12
def imgWidth (img : List Byte) : Nat := imgAt img 11

/-- Byte `b` of term record `j` (R169). -/
def imgTerm (img : List Byte) (j b : Nat) : Nat := imgAt img (96 + 21 * j + b)

/-- Byte `b` of output record `i` (R169). -/
def imgOutput (img : List Byte) (i b : Nat) : Nat := imgAt img (432 + 3 * i + b)

/-- Map entry of own point `i` (R169). -/
def imgPoint (img : List Byte) (i : Nat) : Nat := imgAt img (32 + i)

/-! ### The thirteen checks (R151, R152) -/

/-- A live map entry is invalid, or names a term not below the term count (R150). -/
def pointBad (count entry : Nat) : Bool :=
  !(decide (entry ≤ 0x01) || decide (0x10 ≤ entry ∧ entry ≤ 0x1F) ||
    decide (0x20 ≤ entry ∧ entry ≤ 0x2F ∧ entry - 0x20 < count))

/-- A judged term record has an invalid kind, policy, literal count or k (R150, check 9). -/
def termBad (img : List Byte) (j : Nat) : Bool :=
  let kind := imgTerm img j 0 / 16
  let policy := imgTerm img j 0 % 16
  let k := imgTerm img j 1
  let n := imgTerm img j 4
  decide (2 < kind) || decide (2 < policy) || decide (n < 1 ∨ 8 < n) || decide (kind = 2 ∧ (k < 1 ∨ n < k))

/-- Literal `m` of record `j` fails R152. -/
def literalBad (img : List Byte) (j m : Nat) : Bool :=
  let station := imgTerm img j (5 + 2 * m)
  let point := imgTerm img j (6 + 2 * m) % 128
  decide (imgHigh img < station) || decide (63 < point) ||
    decide (station = imgOwn img ∧ 8 * imgWidth img ≤ point)

/-- Whether the image fails a check (R151). -/
def imageFails (img : List Byte) : CheckReason → Bool
  | .imageCheck => decide (crcBytes (img.take 510) ≠ img.drop 510)
  | .version => decide (imgAt img 0 ≠ 1)
  | .stationRange => decide (31 < imgHigh img ∨ imgHigh img < imgOwn img)
  | .rate => decide (3 < imgAt img 5)
  | .period => decide (imgAt img 6 = 0)
  | .cadence => decide (3 < imgAt img 7 ∨ (Cadence.ofCode (imgAt img 7)).rounds ≤ imgAt img 8)
  | .width => decide (imgWidth img = 0 ∨ 8 < imgWidth img)
  | .pointMap => (List.range (8 * imgWidth img)).any fun i => pointBad (imgTermCount img) (imgPoint img i)
  | .termShape => decide (16 < imgTermCount img) || (List.range (imgTermCount img)).any (termBad img)
  | .literalRange =>
    (List.range (imgTermCount img)).any fun j => (List.range (imgTerm img j 4)).any (literalBad img j)
  | .outputSource =>
    (List.range 8).any fun i => decide (imgOutput img i 0 ≠ 0xFF ∧ imgTermCount img ≤ imgOutput img i 0)
  | .grace => decide (imgAt img 9 < 2 ∨ 8 < imgAt img 9)
  | .listenRange => decide (imgAt img 10 < 2 ∨ 16 < imgAt img 10)

/-- The checks in their order (R151). -/
def checkOrder : List CheckReason :=
  [ .imageCheck, .version, .stationRange, .rate, .period, .cadence, .width, .pointMap, .termShape, .literalRange,
    .outputSource, .grace, .listenRange ]

/-- The result of CHECKING: the first check that fails, or none for a pass (R151). -/
def firstFailure (img : List Byte) : Option CheckReason := checkOrder.find? (imageFails img)

/-! ### The configuration an accepted image gives (R148–R150, R169) -/

/-- A map entry's source (R150). -/
def pointSource (entry : Nat) : PointSource :=
  if entry = 0 then .constant false
  else if entry = 1 then .constant true
  else if 0x10 ≤ entry ∧ entry ≤ 0x1F then .input (Fin.ofNat 16 (entry - 0x10))
  else if 0x20 ≤ entry ∧ entry ≤ 0x2F then .term (Fin.ofNat 16 (entry - 0x20))
  else .none

/-- Literal `m` of term record `j` (R150, R169). -/
def literalOf (img : List Byte) (j m : Nat) : Literal :=
  { station := Fin.ofNat 32 (imgTerm img j (5 + 2 * m))
    point := Fin.ofNat 64 (imgTerm img j (6 + 2 * m) % 128)
    sense := if 128 ≤ imgTerm img j (6 + 2 * m) then .trueWhenLow else .trueWhenHigh }

/-- Term record `j` (R150, R169). -/
def termOf (img : List Byte) (j : Nat) : Term :=
  { kind := match imgTerm img j 0 / 16 with
      | 0 => .all
      | 1 => .any
      | _ => .count
    policy := match imgTerm img j 0 % 16 with
      | 0 => .forceOn
      | 1 => .forceOff
      | _ => .hold
    k := imgTerm img j 1
    hold := imgTerm img j 2
    release := imgTerm img j 3
    literals := (List.range (imgTerm img j 4)).map (literalOf img j) }

/-- Output record `i` (R135, R169). -/
def outputOf (img : List Byte) (i : Nat) : OutputRecord :=
  { source := if imgOutput img i 0 = 0xFF then none else some (Fin.ofNat 16 (imgOutput img i 0))
    invert := decide (imgOutput img i 1 ≠ 0)
    safe := decide (imgOutput img i 2 ≠ 0) }

/-- The configuration that the blocks take from an image that passed (R153, R169). -/
def configurationOf (img : List Byte) : Configuration :=
  { own := Fin.ofNat 32 (imgOwn img)
    high := Fin.ofNat 32 (imgHigh img)
    tag := BitVec.ofNat 10 (imgAt img 3 * 256 + imgAt img 4)
    rate := Fin.ofNat 4 (imgAt img 5)
    period := imgAt img 6
    cadence := Cadence.ofCode (imgAt img 7)
    phase := imgAt img 8
    grace := imgAt img 9
    listen := imgAt img 10
    width := imgWidth img
    terms := (List.range (imgTermCount img)).map (termOf img)
    settle := Vector.ofFn fun g => Fin.ofNat 8 (imgAt img (13 + g.val))
    enables := BitVec.ofNat 4 (imgAt img 17)
    mask := BitVec.ofNat 13 (imgAt img 18 * 256 + imgAt img 19)
    points := Vector.ofFn fun i => pointSource (imgPoint img i.val)
    outputs := Vector.ofFn fun i => outputOf img i.val }

/-! ### The result (R107, R153) -/

/-- The level an own point takes as it comes into being: constants, accepted inputs, 0 for terms (R21). -/
def initialLevel (raw : BitVec 16) : PointSource → Option Bool
  | .constant b => some b
  | .input j => some (raw.getLsbD j.val)
  | .term _ => some false
  | .none => none

/-- The input filters at tick 0: accepted levels are the raw levels, counts 0 (R126). -/
def filtersAt (raw : BitVec 16) : Vector InputState 16 :=
  Vector.ofFn fun j => { accepted := raw.getLsbD j.val, count := 0 }

/-- The round timer starts from zero (R49): the bit of entry is round bit 0. That the first level taken is the bit after it, round bit 1,
is log 20. -/
def RoundTracker.startTimer (t : RoundTracker) : RoundTracker := { t with timer := .running 0 }

/-- A pass: every block takes its fields and the station enters LISTEN (R107, R153). The line interface takes its first level at the bit
after the entry, round bit 1 (log 20). -/
def State.configGood (raw : BitVec 16) (s : State) : State :=
  let cfg := configurationOf s.ldr.buffer
  State.enterListen detailConfigGood
    { s with
      inputPins := raw
      ldr := { phase := .idle, buffer := [], config := some cfg }
      img := { s.img with own := some (updateOwn cfg 0 (initialLevel raw)) }
      line := LineInterface.reset
      trk := s.trk.startTimer
      rx := Receiver.fresh
      inp := some (filtersAt raw)
      drv := { s.drv with held := some 0 } }

/-- A failure: CONFIG_FAULT with the failing check's reason (R107, R153). -/
def State.configBad (reason : CheckReason) (s : State) : State :=
  State.enter (.configFault reason) (StopReason.code (.check reason)) { s with ldr := Loader.reset }

/-! ### The reset and loading commands -/

/-- POWER_ON (R106, R142, R143): all state at its power-on values, the strap sampled, STATE LOADING with detail POWER_ON. A power-on
in a running part is a new power-up (log 3). -/
def execPowerOn (strap : Strap) (s : State) : Host.Outcome State Fault Refusal :=
  .next (s.boot strap detailPowerOn)

/-- RESET_N_LOW (R106, R147, R155): the reset condition at once, whatever runs. While power is still coming up the part is in it
already. -/
def execResetNLow (s : State) : Host.Outcome State Fault Refusal :=
  .next { s.cleared with power := if s.power = .off then .off else .resetLow }

/-- RESET_N_RISING (R106): the strap is sampled and the load starts afresh. The detail is POWER_ON at the first entry to LOADING
after power has come up, RESET_PIN later. Without RESET_N low there is no rising edge. -/
def execResetNRising (strap : Strap) (s : State) : Host.Outcome State Fault Refusal :=
  match s.power with
  | .off => .next (s.boot strap detailPowerOn)
  | .resetLow => .next (s.boot strap detailResetPin)
  | .running => .next s

/-- The image is whole: chip select goes high, and the loader enters CHECKING with the bytes in the order received (R144). -/
def Loader.readWhole (l : Loader) (bytes : List Byte) : Loader :=
  { l with phase := .checking, buffer := l.buffer ++ bytes, command := [], selectLow := false }

/-- READING_COMPLETE (R144): the 512th byte is in. Bytes that do not make up the 512 of the read in progress complete nothing: they are
those of a read that was cut short (R147). -/
def execReadingComplete (bytes : List Byte) (s : State) : Host.Outcome State Fault Refusal :=
  if s.ldr.phase = .reading ∧ (s.ldr.buffer ++ bytes).length = Config.imageBytes then
    .next { s with ldr := s.ldr.readWhole bytes }
  else .next s

/-- CHECKING_COMPLETE (R151, R153): the result is handed over. -/
def execCheckingComplete (raw : BitVec 16) (s : State) : Host.Outcome State Fault Refusal :=
  match s.ldr.phase with
  | .checking => match firstFailure s.ldr.buffer with
    | none => .next (s.configGood raw)
    | some reason => .next (s.configBad reason)
  | .idle => .next s
  | .reading => .next s
  | .waiting => .next s

end Sys2Proof.Machine
end

