-- ==== Sys2Proof/Machine/OwnSlot.lean ====
section
/-! DEFINITION. The frame sender (Chapter 5): the turn decided at the own slot, the frame built, and the family of commands in the
own slot. -/

namespace Sys2Proof.Machine

/-- The header of the own frame (R91). -/
def State.ownHeader (cfg : Configuration) (kind : FrameKind) (s : State) : Header :=
  { station := cfg.own, kind := kind.code, cadence := cfg.cadence, widthCode := BitVec.ofNat 3 (cfg.width - 1),
    flags := { stale := s.eng.stale, pool := s.poolFlag }, reserved := false, seq := s.tx.seq, tag := cfg.tag }

/-- The point bytes of the own frame: the live own points for DATA, none for LEAVE (R91). -/
def State.ownPointBytes (cfg : Configuration) (kind : FrameKind) (s : State) : List Byte :=
  match kind with
  | .data => pointBytesOf (s.img.own.getD 0) cfg.width
  | .leave => []

/-- The own frame buffer filled at the boundary (R91). -/
def State.buildFrame (cfg : Configuration) (kind : FrameKind) (s : State) : State :=
  { s with
    tx := { s.tx with
      kind := some kind
      buffer := some (frameBody (s.ownHeader cfg kind) (s.ownPointBytes cfg kind))
      driven := 0 } }

/-- The own slot opens: the turn is decided and the frame built; a committed LEAVE clears the withdrawal-pending flag (R89,
R91). -/
def State.openOwnSlot (cfg : Configuration) (s : State) : State :=
  if s.ctl.station = .active ∧ s.tx.attempt = .idle then
    if s.ctl.withdrawalPending then
      { s.buildFrame cfg .leave with ctl := { s.ctl with withdrawalPending := false } }
    else if dueRound cfg s.trk.round then s.buildFrame cfg .data
    else s
  else s

/-- The start bit is due: the buffer is filled and nothing has been driven (R93; log 6). -/
def Sender.startDue (t : Sender) : Bool := decide (t.attempt = .idle) && t.kind.isSome

/-- The receiver at the own start bit: a reception begun, its own mark as given (R72, R79, R93). -/
def State.startReception (own : Bool) (s : State) : State :=
  { s with
    rx := { s.rx with
      state := .receiving, bits := [], level := dominant, runLength := 1, startWalk := s.trk.walk, ownMark := own,
      prevRecessive := false } }

/-- START_BIT (R92, R93): the line is sensed; the start bit is driven and the sequence advances, or the slot is taken. -/
def execStartBit (taken : Bool) (s : State) : Host.Outcome State Fault Refusal :=
  if s.ctl.station = .active ∧ s.tx.startDue then
    if taken then
      .next (State.count Counters.bumpCollisions
        ({ s with tx := { s.tx with attempt := .takenOver } }.startReception false))
    else
      .next ({ s with tx := { s.tx with attempt := .driving, driven := 1, seq := s.tx.seq + 1 } }.startReception true)
  else .next s

/-- The receiver has taken the driven bits up to line bit `bit`, and drops the own mark there: from the release on the frame is
a foreign one (R79). A fault at the start bit itself leaves no start bit on the line. -/
def State.foreignFrom (bit : Nat) (s : State) : State :=
  if bit = 0 then { s with rx := Receiver.idleAfter recessive }
  else
    let r := s.rx.hear s.rx.startWalk ((s.tx.line.take bit).drop s.tx.driven)
    { s with rx := { r with ownMark := false } }

/-- Line bit `bit` of the own frame may be the one driven and compared now: none after it has been driven (R94; log 19). -/
def Sender.reaches (t : Sender) (bit : Nat) : Bool := decide (t.attempt = .driving) && decide (t.driven ≤ bit + 1)

/-- COLLISION (R94): line bit `bit` was driven recessive and read back dominant. -/
def execCollision (bit : Nat) (s : State) : Host.Outcome State Fault Refusal :=
  if s.tx.reaches bit ∧ s.tx.line[bit]? = some recessive then
    let t := s.foreignFrom bit
    .next (State.count Counters.bumpCollisions { t with tx := { t.tx with attempt := .takenOver } })
  else .next s

/-- TRANSCEIVER_FAULT (R94, R97, R98): line bit `bit` was driven dominant and read back recessive; the attempt is lost at that
bit. -/
def execTransceiverFault (bit : Nat) (s : State) : Host.Outcome State Fault Refusal :=
  if s.tx.reaches bit ∧ s.tx.line[bit]? = some dominant then
    .next (s.foreignFrom bit).attemptLost
  else .next s

/-- A sent attempt (R96, R98, R118): frames sent, the consecutive-loss count 0, WITHDRAWN after a LEAVE. -/
def State.attemptWasSent (s : State) : State :=
  let t := State.count Counters.bumpFramesSent { s with tx := { s.tx.settle with losses := 0 } }
  if s.tx.kind = some .leave then t.enter .withdrawn detailLeaveSent else t

/-- ATTEMPT_SENT (R79, R96): the end bit was driven and read back dominant; the reception with the own mark is discarded. -/
def execAttemptSent (s : State) : Host.Outcome State Fault Refusal :=
  if s.tx.attempt = .driving then
    .next (State.attemptWasSent { s with rx := Receiver.idleAfter dominant })
  else .next s

end Sys2Proof.Machine
end

