-- ==== Sys2Proof/Machine/Round.lean ====
section
/-! DEFINITION. The round tracker (Chapter 3) and the line faults (R48, R120, R121): timer, marks, walk, boundaries. -/

namespace Sys2Proof.Machine

/-- ROUND_TIMER_EXPIRY (R49, R51): the timer waits expired, a mark is due; an expiry with the walk OPEN is an overrun. -/
def execRoundTimerExpiry (s : State) : Host.Outcome State Fault Refusal :=
  match s.trk.timer with
  | .running _ =>
    let t := { s with trk := { s.trk with timer := .expired, markDue := true } }
    match s.trk.walk with
    | .opened _ => .next (t.count Counters.bumpOverruns)
    | .idle => .next t
    | .closed => .next t
  | .stopped => .next s
  | .expired => .next s

/-- The walk is CLOSED or IDLE (R50). -/
def Walk.notOpen : Walk → Bool
  | .idle | .closed => true
  | .opened _ => false

/-- A mark may begin, given the 6 recessive bits that MARK_BEGIN reports (R50). -/
def State.mayMark (s : State) : Bool :=
  s.trk.markDue && s.ctl.station.timing && s.trk.walk.notOpen && !s.drives

/-- MARK_BEGIN (R50): marks sent is bumped and the dominant bits begin. -/
def execMarkBegin (s : State) : Host.Outcome State Fault Refusal :=
  if s.mayMark then .next (State.count Counters.bumpMarksSent { s with line := { s.line with mark := some 0 } })
  else .next s

/-- The line is released from a mark (R50). -/
def State.releaseMark (s : State) : State := { s with line := { s.line with mark := none } }

/-- MARK_FAILED (R50): the line is released; the timer stays expired and the flag set. -/
def execMarkFailed (s : State) : Host.Outcome State Fault Refusal := .next s.releaseMark

/-- MARK_RELEASE (R50): the line is released after the 12th bit. -/
def execMarkRelease (s : State) : Host.Outcome State Fault Refusal := .next s.releaseMark

/-- The timer and the flag at a mark (R49): restarted at round bit 9 where a timer runs, stopped in LINE_FAULT with reason TX. -/
def State.restartTimer (s : State) : State :=
  { s with
    trk := { s.trk with
      timer := if s.ctl.station.timing then .running Config.recognisedRoundBit else s.trk.timer
      markDue := false
      inMark := true } }

/-- An attempt taken over is lost when its reception is dropped under a mark (R95). -/
def State.loseUnderMark (s : State) : State := if s.tx.attempt = .takenOver then s.attemptLost else s

/-- A mark recognised while the walk is OPEN cuts it (R53, R56). -/
def State.cutIfOpen (cfg : Configuration) (s : State) : State :=
  match s.trk.walk with
  | .opened cursor => s.closeCut cfg cursor
  | .idle => s
  | .closed => s

/-- MARK_RECOGNISED (R49, R53, R56, R75, R95): the timer restarts, the flag clears, a reception is dropped, an attempt taken over
is lost, an OPEN walk is cut. The loss and the cut fall at one bit and either may be first (R97). -/
def execMarkRecognised (lossFirst : Bool) (s : State) : Host.Outcome State Fault Refusal :=
  match s.ldr.config with
  | none => .next s
  | some cfg =>
    if s.ctl.station.receives then
      let t := { s with rx := Receiver.idleAfter dominant }.restartTimer
      if lossFirst then .next (t.loseUnderMark.cutIfOpen cfg) else .next (t.cutIfOpen cfg).loseUnderMark
    else .next s

/-- MARK_END (R53, R57, R58): the walk opens with the cursor before 0 and the round count advances. -/
def execMarkEnd (s : State) : Host.Outcome State Fault Refusal :=
  if s.trk.inMark ∧ s.trk.walk.notOpen then
    .next { s with
      trk := { s.trk with walk := .opened .beforeZero, inMark := false, round := s.trk.round + 1 }
      rx := s.rx.sawRecessive }
  else .next s

/-- The station number whose slot the next boundary opens (R54). -/
def Cursor.nextNumber : Cursor → Nat
  | .beforeZero => 0
  | .slot n => n.val + 1

/-- A boundary in an OPEN walk (R54, R55): the cursor advances, opening the own slot at the own number, or the walk closes after
slot H. -/
def State.boundary (cfg : Configuration) (cursor : Cursor) (s : State) : State :=
  if cfg.high.val < cursor.nextNumber then s.closeNormal cfg
  else
    let n : StationNo := Fin.ofNat 32 cursor.nextNumber
    let t := { s with trk := { s.trk with walk := .opened (.slot n) } }
    if n = cfg.own then t.openOwnSlot cfg else t

/-- SLOT_BOUNDARY (R53, R54, R55): no effect unless the walk is OPEN; the bit of a boundary is recessive (R47). -/
def execSlotBoundary (s : State) : Host.Outcome State Fault Refusal :=
  match s.ldr.config, s.trk.walk with
  | some cfg, .opened cursor => .next (s.sawRecessive.boundary cfg cursor)
  | some _, .idle => .next s.sawRecessive
  | some _, .closed => .next s.sawRecessive
  | none, _ => .next s

/-- Entry to LINE_FAULT with reason STUCK (R48, R80, R101, R120): mark and frame released, the receiver and the timer stopped, the
walk IDLE. -/
def State.enterStuck (s : State) : State :=
  State.enter (.lineFault .stuck) (StopReason.code (.line .stuck))
    { s with
      line := { s.line with mark := none }
      trk := { s.trk.stopTimer with walk := .idle, inMark := false }
      rx := Receiver.fresh
      tx := s.tx.settle }

/-- STUCK (R48, R120). -/
def execStuck (s : State) : Host.Outcome State Fault Refusal :=
  if s.ctl.station.receives then .next s.enterStuck else .next s

/-- LINE_CLEAR (R48, R121): to LISTEN, or to LINE_FAULT with reason TX while a transmit fault is held; the receiver starts
afresh, and the timer from zero, the bit of entry as round bit 0 (R49). -/
def execLineClear (s : State) : Host.Outcome State Fault Refusal :=
  if s.ctl.station = .lineFault .stuck then
    let t := { s with rx := Receiver.fresh }
    if s.ctl.txHeld then .next t.enterTxFault
    else .next (State.enterListen detailLineClear { t with trk := s.trk.startTimer })
  else .next s

end Sys2Proof.Machine
end

