-- ==== Sys2Proof/Machine/Reception.lean ====
section
/-! DEFINITION. Receptions that end (Chapter 4): validation, counting, the walk sorting of R59, what valid frames do, and the family
of FRAME_RECEIVED and BAD_FRAME. -/

namespace Sys2Proof.Machine

/-- A bad frame's counter (R75–R77, R87). -/
def Counters.bumpBad (c : Counters) : BadKind → Counters
  | .stuff => { c with badStuff := bump16 c.badStuff }
  | .short => { c with badShort := bump16 c.badShort }
  | .disturbed => { c with badDisturbed := bump16 c.badDisturbed }
  | .framing => { c with badFraming := bump16 c.badFraming }

/-- The two failures of a completed frame (R77, steps 4 and 5). -/
def Counters.bumpBadCheck (c : Counters) : Counters := { c with badCheck := bump16 c.badCheck }
def Counters.bumpBadHeader (c : Counters) : Counters := { c with badHeader := bump16 c.badHeader }

/-- Frames are counted under the walk recorded at their start bit, unless it was IDLE (R58, R78). -/
def Walk.counts : Walk → Bool
  | .idle => false
  | .opened _ | .closed => true

/-- What a completed body is (R77): a frame that fails its check, one whose header is invalid, or a valid frame. -/
inductive Verdict
  | check
  | header
  | valid (kind : FrameKind) (h : Header) (points : List Byte)
deriving DecidableEq, Repr

/-- A completed frame validated (R77). -/
def judge (body : List Byte) : Verdict :=
  if checkMatches body then
    match (Header.ofBytes body).validKind with
    | none => .header
    | some kind => .valid kind (Header.ofBytes body) (bodyPoints body)
  else .check

/-- The controller's part of a duplicate sighting (R113). -/
def State.noteSighting (s : State) : State :=
  match s.ctl.station with
  | .listen _ | .active | .withdrawn => s.enter .duplicate detailSighting
  | .duplicate => s
  | .lineFault _ => s
  | .loading => s
  | .configFault _ => s

/-- A duplicate sighting (R6, R86, R113). -/
def State.sighting (cfg : Configuration) (kind : FrameKind) (h : Header) (s : State) : State :=
  (s.setMember cfg.own ((s.member cfg.own).sighted kind h.cadence)).noteSighting

/-- A valid frame handed on (R59, R85, R86). -/
def State.handOn (cfg : Configuration) (kind : FrameKind) (h : Header) (points : List Byte) (s : State) : State :=
  if h.station = cfg.own then s.sighting cfg kind h
  else match kind with
    | .data => s.peerData h points
    | .leave => s.peerLeave h.station

/-- The cursor set by a forward slip, while the walk is OPEN (R61); it never decreases within a round (R54). -/
def RoundTracker.slipTo (t : RoundTracker) (n : StationNo) : RoundTracker :=
  match t.walk with
  | .opened cursor => if cursor.below n then { t with walk := .opened (.slot n) } else t
  | .idle => t
  | .closed => t

/-- A forward slip (R61): the cursor, the counter, and a missed turn where the slip reaches or passes the own number (R54, R90). -/
def State.slip (cfg : Configuration) (cursor : Cursor) (n : StationNo) (s : State) : State :=
  let t := State.count Counters.bumpSlips { s with trk := s.trk.slipTo n }
  if cursor.below cfg.own ∧ cfg.own ≤ n then t.passedUnopened cfg else t

/-- The sorting of a valid frame by the walk and cursor at its start and by its number (R59–R62). -/
def State.sortFrame (cfg : Configuration) (start : Walk) (kind : FrameKind) (h : Header) (points : List Byte)
    (s : State) : State :=
  match start with
  | .idle => s
  | .closed => s.count Counters.bumpAfterClose
  | .opened cursor =>
    if cfg.high < h.station then s.count Counters.bumpBeyondWalk
    else if cursor = .slot h.station then s.handOn cfg kind h points
    else if cursor.below h.station then (s.slip cfg cursor h.station).handOn cfg kind h points
    else (s.count Counters.bumpOutOfSlot).handOn cfg kind h points

/-- A completed foreign frame counted, and a valid one sorted (R77, R78). -/
def State.countAndSort (cfg : Configuration) (start : Walk) (v : Verdict) (s : State) : State :=
  if start.counts then
    match v with
    | .check => s.count Counters.bumpBadCheck
    | .header => s.count Counters.bumpBadHeader
    | .valid kind h points => (s.count Counters.bumpGood).sortFrame cfg start kind h points
  else s

/-- The frame took over an attempt and carries the own number (R95). -/
def Verdict.ownNumber (cfg : Configuration) : Verdict → Bool
  | .valid _ h _ => decide (h.station = cfg.own)
  | .check => false
  | .header => false

/-- The outcome of an attempt taken over, at the end of the foreign reception (R95): taken over by the own number, or lost. -/
def State.settleTakenOver (ownNumber : Bool) (s : State) : State :=
  if s.tx.attempt = .takenOver then
    if ownNumber then { s with tx := s.tx.settle } else s.attemptLost
  else s

/-- A foreign frame complete at its end bit (R77, R78, R95). -/
def State.foreignFrame (cfg : Configuration) (start : Walk) (body : List Byte) (lossFirst : Bool) (s : State) : State :=
  let v := judge body
  if lossFirst then (s.settleTakenOver (v.ownNumber cfg)).countAndSort cfg start v
  else (s.countAndSort cfg start v).settleTakenOver (v.ownNumber cfg)

/-- The walk recorded at the start bit of the reception that these levels end: the one held, or the present one when the start
bit is among the levels (R72, R78). -/
def State.receptionWalk (s : State) : Walk :=
  match s.rx.state with
  | .waiting => s.trk.walk
  | .receiving => s.rx.startWalk
  | .held => s.rx.startWalk

/-- FRAME_RECEIVED (R72, R73, R77–R79): the levels complete a reception at its end bit; with the own mark it is discarded. -/
def execFrameReceived (levels : List Level) (lossFirst : Bool) (s : State) : Host.Outcome State Fault Refusal :=
  match s.ldr.config with
  | none => .next s
  | some cfg =>
    if s.ctl.station.receives then
      match s.rx.takeAll s.trk.walk levels with
      | some (.completed body) =>
        let t := { s with rx := Receiver.idleAfter dominant }
        if s.rx.ownMark then .next t else .next (t.foreignFrame cfg s.receptionWalk body lossFirst)
      | some (.more _) => .next s
      | some (.bad _) => .next s
      | some .dropped => .next s
      | none => .next s
    else .next s

/-- BAD_FRAME (R74–R76, R78, R95): the levels end a reception as STUFF, SHORT, DISTURBED or FRAMING; its counter is bumped, and
an attempt taken over is lost. -/
def execBadFrame (levels : List Level) (s : State) : Host.Outcome State Fault Refusal :=
  match s.ldr.config with
  | none => .next s
  | some _ =>
    if s.ctl.station.receives then
      match s.rx.takeAll s.trk.walk levels with
      | some (.bad kind) =>
        let t := { s with rx := Receiver.idleAfter recessive }
        let t' := if s.receptionWalk.counts then t.count (·.bumpBad kind) else t
        .next (t'.settleTakenOver false)
      | some (.more _) => .next s
      | some (.completed _) => .next s
      | some .dropped => .next s
      | none => .next s
    else .next s

end Sys2Proof.Machine
end

