-- ==== Sys2Proof/Machine/TapCommands.lean ====
section
/-! DEFINITION. The local tap (Chapter 10): the responses, the effects at chip select rising, and the family of tap commands. -/

namespace Sys2Proof.Machine

/-! ### Responses (R159, R160, R164, R171) -/

/-- A stop reason's byte, 00h for none (R171). -/
def reasonByte (r : Option StopReason) : Byte := byteOf ((r.map StopReason.code).getD 0)

/-- READ STATUS (R159, R171). -/
def State.statusResponse (s : State) : List Byte :=
  [byteOf s.ctl.station.code, reasonByte s.ctl.station.fault, reasonByte s.ctl.lastStop, byteOf s.ctl.restarts] ++
    bytes16 s.trk.round.toNat ++ [byteOf s.tap.queue.length] ++ bytes16 s.tap.lostEvents

/-- READ COUNTERS (R159, R171). -/
def State.countersResponse (s : State) : List Byte := s.cnt.toList.flatMap bytes16

/-- Presence and absent reason as coded in a roster record (R171). -/
def presenceByte (r : Member) : Byte :=
  let p := match r.presence with
    | .unseen => 0
    | .present => 1
    | .late => 2
    | .absent => 3
  let a := match r.reason with
    | none => 0
    | some .silent => 1
    | some .left => 2
  byteOf (a * 4 + p)

/-- A placement's code (R171). -/
def Placement.code : Placement → Nat
  | .none => 0
  | .full => 1
  | .truncated => 2
  | .unplaced => 3

/-- The sender flags as coded, FFh when absent (R171). -/
def flagsByte : Option SenderFlags → Byte
  | none => 0xFF
  | some f => byteOf (f.stale.toNat * 2 + f.pool.toNat)

/-- The sixteen bytes of a roster record (R171). -/
def recordBytes (r : Member) (entry : Option Entry) : List Byte :=
  [ presenceByte r, byteOf r.age, byteOf ((r.cadence.map Cadence.rounds).getD 0), byteOf (r.width.getD 0),
    byteOf ((r.lastSeq.map BitVec.toNat).getD 0xFF) ] ++
  bytes16 ((r.tag.map BitVec.toNat).getD 0xFFFF) ++
  [ flagsByte r.flags, byteOf r.missed, byteOf r.repeats, byteOf r.tagChanges, byteOf r.placement.code ] ++
  bytes16 ((entry.map (·.offset)).getD 0xFFFF) ++
  [ byteOf ((entry.map (·.length)).getD 0), 0 ]

/-- READ ROSTER's arguments are in range (R158). -/
def rosterInRange (first last : Byte) : Bool := decide (first.toNat ≤ last.toNat ∧ last.toNat ≤ 31)

/-- READ ROSTER (R160, R171); zeros for one record when refused (R158, R170). -/
def Copy.rosterResponse (c : Copy) (first last : Byte) : List Byte :=
  if rosterInRange first last then
    bytes16 c.stamp.toNat ++ [byteOf c.table.length] ++ bytes16 (freePointer c.table) ++
      (stations.filter fun n => decide (first.toNat ≤ n.val ∧ n.val ≤ last.toNat)).flatMap fun n =>
        recordBytes (c.roster.get n) (entryOf c.table n)
  else List.replicate 21 0

/-- The eight level bytes and the eight supplied bytes of 64 positions (R171). -/
def positionBytes (levels supplied : Nat → Bool) : List Byte :=
  pointBytesOf (bitsOf levels 64) 8 ++ pointBytesOf (bitsOf supplied 64) 8

/-- READ POINTS of a peer (R160, R171). -/
def Copy.peerPoints (c : Copy) (n : StationNo) : List Byte :=
  match entryOf c.table n with
  | none => [byteOf (c.roster.get n).placement.code, 0] ++ positionBytes (fun _ => false) (fun _ => false)
  | some e =>
    [byteOf (c.roster.get n).placement.code, byteOf e.length] ++
      positionBytes (fun p => decide (p < e.length) && c.pool.levels.getLsbD (e.offset + p))
        (fun p => decide (p < e.length) && c.pool.supplied.getLsbD (e.offset + p))

/-- READ POINTS of the own number: positions below 8 × own width read as supplied, and nothing in the empty copy (R160, R162,
R171). -/
def Copy.ownPoints (c : Copy) (width : Nat) : List Byte :=
  match c.own with
  | none => [0, 0] ++ positionBytes (fun _ => false) (fun _ => false)
  | some own =>
    [0, byteOf (8 * width)] ++
      positionBytes (fun p => decide (p < 8 * width) && own.getLsbD p) (fun p => decide (p < 8 * width))

/-- READ POINTS' argument is in range (R158). -/
def stationInRange (station : Byte) : Bool := decide (station.toNat ≤ 31)

/-- READ POINTS (R160, R171); zeros when refused. -/
def State.pointsResponse (station : Byte) (s : State) : List Byte :=
  let c := s.tap.published
  let n : StationNo := Fin.ofNat 32 station.toNat
  if stationInRange station then
    bytes16 c.stamp.toNat ++
      match s.ldr.config with
      | none => c.peerPoints n
      | some cfg => if n = cfg.own then c.ownPoints cfg.width else c.peerPoints n
  else List.replicate 20 0

/-- The three bytes of a term state (R171). -/
def termBytes (t : TermState) : List Byte :=
  let phase := match t.phase with
    | .off => 0
    | .arming _ => 1
    | .on => 2
    | .disarming _ => 3
  let count := match t.phase with
    | .arming c => c
    | .disarming c => c
    | .off => 0
    | .on => 0
  let raw := match t.lastRaw with
    | .unknown => 0
    | .yes => 1
    | .no => 2
  [byteOf phase, byteOf count, byteOf (t.phase.value.toNat * 128 + raw * 16 + t.byPolicy.toNat)]

/-- READ TERMS (R160, R171). -/
def Copy.termsResponse (c : Copy) : List Byte :=
  bytes16 c.stamp.toNat ++ (List.finRange 16).flatMap (fun j => termBytes (c.terms.get j)) ++
    [byteOf c.stale.toNat, c.levels]

/-- TAKE EVENTS' argument is in range (R158). -/
def takeInRange (n : Byte) : Bool := decide (1 ≤ n.toNat ∧ n.toNat ≤ 32)

/-- The take count fixed as the argument byte completes (R164). -/
def State.takeCount (n : Byte) (s : State) : Nat := if takeInRange n then min n.toNat s.tap.queue.length else 0

/-- TAKE EVENTS: the take count, then the oldest entries (R164). -/
def State.eventsResponse (n : Byte) (s : State) : List Byte :=
  byteOf (s.takeCount n) :: (s.tap.queue.take (s.takeCount n)).flatMap Event.bytes

/-! ### Effects at chip select rising -/

/-- The response of a command without one. -/
def noResponse (_ : State) : List Byte := []

/-- The take count of a command that takes no events. -/
def noTake (_ : State) : Nat := 0

/-- A read (R158): nothing but the result. -/
def readEffect (accepted : Bool) (_ : Latch) (s : State) : State :=
  s.result (if accepted then .accepted else .refused)

/-- TAKE EVENTS at chip select rising (R164): the entries fully shifted out leave the queue. -/
def takeEffect (accepted : Bool) (l : Latch) (s : State) : State :=
  if accepted then
    State.result .accepted
      { s with tap := { s.tap with queue := s.tap.queue.drop (entriesTaken l.take s.tap.dout.length) } }
  else s.result .refused

/-- WITHDRAW (R115): accepted in ACTIVE with the flag clear. -/
def State.withdrawEffect (s : State) : State :=
  if s.ctl.station = .active ∧ s.ctl.withdrawalPending = false then
    State.result .accepted { s with ctl := { s.ctl with withdrawalPending := true } }
  else s.result .refused

/-- REJOIN (R116). -/
def State.rejoinEffect (s : State) : State :=
  match s.ctl.station with
  | .active =>
    if s.ctl.withdrawalPending then
      State.result .accepted { s with ctl := { s.ctl with withdrawalPending := false } }
    else s.result .refused
  | .withdrawn => (s.enterListen detailRejoined).result .accepted
  | .loading => s.result .refused
  | .configFault _ => s.result .refused
  | .listen _ => s.result .refused
  | .duplicate => s.result .refused
  | .lineFault _ => s.result .refused

/-- REPACK (R15, R158): refused in LOADING and CONFIG_FAULT. -/
def State.repackEffect (s : State) : State :=
  if s.ctl.station.unconfigured then s.result .refused
  else State.result .accepted { s with img := { s.img with repackPending := true } }

/-- A record with its three counts 0 (R20, R166). -/
def Member.zeroCounts (r : Member) : Member := { r with missed := 0, repeats := 0, tagChanges := 0 }

/-- CLEAR COUNTERS (R166). -/
def State.clearEffect (s : State) : State :=
  State.result .accepted
    { s with
      cnt := Counters.zero
      img := { s.img with roster := mapRoster (fun _ r => r.zeroCounts) s.img.roster }
      tap := { s.tap with lostEvents := 0 } }

/-- What stays of the open transaction across an entry to LOADING: the byte shifted out, not the copies (R155, R156). -/
def Tap.keepTransaction (old new : Tap) : Tap :=
  { new with trans := old.trans, status := old.status, dout := old.dout, lastResult := .accepted }

/-- RESTART (R109): as RESET_N, but for the last stop reason, the restart count, the strap's held value and the result. -/
def State.restartEffect (s : State) : State :=
  State.postLoading detailRestart
    { s.cleared with
      ctl := { Controller.reset with lastStop := s.ctl.lastStop, restarts := add8 s.ctl.restarts 1 }
      ldr := Loader.begin s.reads s.strap
      tap := Tap.keepTransaction s.tap Tap.reset }

/-- The entry to LOADING by LOAD CONFIG (R110, R155): station counters, queue, loss mark, lost-event count, last stop reason and
restart count are kept. -/
def State.loadEntry (image : List Byte) (s : State) : State :=
  State.postLoading detailLoadConfig
    { s.cleared with
      ctl := { Controller.reset with lastStop := s.ctl.lastStop, restarts := s.ctl.restarts }
      ldr := { Loader.reset with phase := .checking, buffer := image }
      tap := Tap.keepTransaction s.tap
        { Tap.reset with queue := s.tap.queue, lossMark := s.tap.lossMark, lostEvents := s.tap.lostEvents }
      cnt := s.cnt }

/-- LOAD CONFIG (R110, R146). -/
def State.loadEffect (image : List Byte) (s : State) : State :=
  match s.ctl.station with
  | .loading =>
    match s.ldr.phase with
    | .waiting => State.result .accepted { s with ldr := { s.ldr with phase := .checking, buffer := image } }
    | .idle => s.result .refused
    | .reading => s.result .refused
    | .checking => s.result .refused
  | .configFault _ => s.loadEntry image
  | .listen _ => s.loadEntry image
  | .active => s.loadEntry image
  | .withdrawn => s.loadEntry image
  | .duplicate => s.loadEntry image
  | .lineFault _ => s.loadEntry image

/-- A transaction without a complete known command (R156): the bits not taken in yet arrive. -/
def State.receive (bits : List Level) (s : State) : State := s.arrive bits none (bits.length - s.tap.dout.length)

/-- Chip select rises on a transaction without a complete known command (R156): MALFORMED, no effect. -/
def State.riseMalformed (bits : List Level) (s : State) : State :=
  match s.tap.trans with
  | .idle => s.selectHigh
  | .opened o => if o = Opened.ofBits bits then (s.result .malformed).endTransaction else s

/-! ### The commands -/

/-- CHIP_SELECT_FALLING (R156, R157): a transaction opens and the status byte is captured. The reset condition ignores the edge, and
chip select already low has no falling edge. -/
def execChipSelectFalling (s : State) : Host.Outcome State Fault Refusal :=
  if s.power = .running ∧ s.tapSelectLow = false ∧ s.tap.trans = .idle then
    .next { s with
      tapSelectLow := true
      tap := { s.tap with trans := .opened Opened.fresh, status := s.statusByte, dout := [] } }
  else .next { s with tapSelectLow := true }

/-- READ_STATUS (R158, R159). -/
def execReadStatus (part : TapPart) (s : State) : Host.Outcome State Fault Refusal :=
  .next (s.tapCommand 0x01 [] part State.statusResponse noTake (readEffect true))

/-- READ_COUNTERS (R158, R159). -/
def execReadCounters (part : TapPart) (s : State) : Host.Outcome State Fault Refusal :=
  .next (s.tapCommand 0x02 [] part State.countersResponse noTake (readEffect true))

/-- READ_ROSTER (R158, R160). -/
def execReadRoster (first last : Byte) (part : TapPart) (s : State) : Host.Outcome State Fault Refusal :=
  .next (s.tapCommand 0x03 [first, last] part (fun s => s.tap.published.rosterResponse first last) noTake
    (readEffect (rosterInRange first last)))

/-- READ_POINTS (R158, R160). -/
def execReadPoints (station : Byte) (part : TapPart) (s : State) : Host.Outcome State Fault Refusal :=
  .next (s.tapCommand 0x04 [station] part (State.pointsResponse station) noTake (readEffect (stationInRange station)))

/-- READ_TERMS (R158, R160). -/
def execReadTerms (part : TapPart) (s : State) : Host.Outcome State Fault Refusal :=
  .next (s.tapCommand 0x05 [] part (fun s => s.tap.published.termsResponse) noTake (readEffect true))

/-- TAKE_EVENTS (R158, R164). -/
def execTakeEvents (n : Byte) (part : TapPart) (s : State) : Host.Outcome State Fault Refusal :=
  .next (s.tapCommand 0x06 [n] part (State.eventsResponse n) (State.takeCount n) (takeEffect (takeInRange n)))

/-- WITHDRAW (R115, R158). -/
def execWithdraw (part : TapPart) (s : State) : Host.Outcome State Fault Refusal :=
  .next (s.tapCommand 0x10 [] part noResponse noTake (fun _ s => s.withdrawEffect))

/-- REJOIN (R116, R158). -/
def execRejoin (part : TapPart) (s : State) : Host.Outcome State Fault Refusal :=
  .next (s.tapCommand 0x11 [] part noResponse noTake (fun _ s => s.rejoinEffect))

/-- REPACK (R15, R158). -/
def execRepack (part : TapPart) (s : State) : Host.Outcome State Fault Refusal :=
  .next (s.tapCommand 0x12 [] part noResponse noTake (fun _ s => s.repackEffect))

/-- CLEAR_COUNTERS (R158, R166). -/
def execClearCounters (part : TapPart) (s : State) : Host.Outcome State Fault Refusal :=
  .next (s.tapCommand 0x13 [] part noResponse noTake (fun _ s => s.clearEffect))

/-- RESTART (R109, R158). -/
def execRestart (part : TapPart) (s : State) : Host.Outcome State Fault Refusal :=
  .next (s.tapCommand 0x14 [] part noResponse noTake (fun _ s => s.restartEffect))

/-- LOAD_CONFIG (R110, R146, R156): bytes beyond the 512 are ignored; with fewer the command is not complete, and a chip select that
rises ends a MALFORMED transaction. -/
def execLoadConfig (image : List Byte) (part : TapPart) (s : State) : Host.Outcome State Fault Refusal :=
  let args := image.take Config.imageBytes
  if args.length = Config.imageBytes then
    .next (s.tapCommand 0x20 args part noResponse noTake (fun _ s => s.loadEffect args))
  else
    let bits := bitsOfBytes (0x20 :: args)
    match part with
    | .arriving clocks => .next (s.arrive bits none (min clocks (bits.length - s.tap.dout.length)))
    | .complete => .next (s.receive bits)
    | .rising _ => .next (s.riseMalformed bits)
    | .whole _ => .next ((s.receive bits).riseMalformed bits)

/-- MALFORMED (R156): the transaction takes in an unknown code or a part of a command, and ends so if chip select rises. Bits that do
spell a complete known command do not end a transaction so. -/
def execMalformed (incomplete : Incomplete) (s : State) : Host.Outcome State Fault Refusal :=
  let bits := bitsOfBytes incomplete.received ++ incomplete.spare
  if tapComplete (bytesOfBits bits) then .next s
  else if incomplete.rises then .next ((s.receive bits).riseMalformed bits)
  else .next (s.receive bits)

end Sys2Proof.Machine
end

