-- ==== Sys2Proof/Machine/Clock.lean ====
section
/-! DEFINITION. What time alone does (log 2, log 12): one bit time of the line, or one byte time of the serial memory. The happenings
that fall due go to the end of the queue; the bit-level state moves at once. -/

namespace Sys2Proof.Machine

/-- Commands put at the end of the queue. -/
def State.enqueue (cs : List Instr) (s : State) : State := { s with pending := s.pending ++ cs }

/-- A bit time on a quiet line: nobody else drives, the transceiver carries. -/
def quietBit : LineBit := { others := recessive, carries := true, tie := false, tick := .last }

/-- Reference clocks per bit time (R45). -/
def Configuration.bitClocks (cfg : Configuration) : Nat := Config.slowestBitClocks / 2 ^ cfg.rate.val

/-- A run lengthened or begun by a level (R45). -/
def runAfter (r : Option Run) (b : Level) : Run :=
  match r with
  | none => { level := b, length := 1 }
  | some r => if r.level = b then { r with length := r.length + 1 } else { level := b, length := 1 }

/-- The level read back when this station drives `own`: the line is wired-AND, and a dominant level reaches it only if the
transceiver carries it (R50, R94). -/
def LineBit.read (e : LineBit) (own : Level) : Level := e.others && (own || !e.carries)

/-- What the station's own driving makes of a bit time: the level read, the bits of mark and frame driven after it, and the
happenings. -/
structure Driven where
  level : Level
  mark : Option Nat
  driven : Nat
  happenings : List Instr
  /-- The receiver's part of this bit is done by one of the happenings. -/
  receiverDone : Bool
deriving DecidableEq, Repr

/-- A bit of the own mark (R50). -/
def State.driveMark (k : Nat) (e : LineBit) (s : State) : Driven :=
  let level := e.read dominant
  { level := level, mark := some (k + 1), driven := s.tx.driven, receiverDone := false
    happenings :=
      if level = recessive then [.markFailed] else if k + 1 = Config.markLength then [.markRelease] else [] }

/-- The bit at which the own start bit is due (R93, R94). -/
def State.driveStart (e : LineBit) (s : State) : Driven :=
  if e.others = dominant ∧ e.tie then
    { level := dominant, mark := none, driven := s.tx.driven, happenings := [.startBit true], receiverDone := true }
  else
    let level := e.read dominant
    { level := level, mark := none, driven := s.tx.driven, receiverDone := true
      happenings := .startBit false :: if level = recessive then [.transceiverFault 0] else [] }

/-- A later bit of the own frame, compared with the level read back (R94, R96). -/
def State.driveFrame (e : LineBit) (s : State) : Driven :=
  let k := s.tx.driven
  let own := s.tx.line.getD k recessive
  let level := e.read own
  if level = own then
    if s.tx.line.length ≤ k + 1 then
      { level := level, mark := none, driven := k + 1, happenings := [.attemptSent], receiverDone := true }
    else { level := level, mark := none, driven := k + 1, happenings := [], receiverDone := false }
  else if own = recessive then
    { level := level, mark := none, driven := k + 1, happenings := [.collision k], receiverDone := false }
  else { level := level, mark := none, driven := k + 1, happenings := [.transceiverFault k], receiverDone := false }

/-- The bit time as the station's own driving makes it. -/
def State.drive (e : LineBit) (s : State) : Driven :=
  match s.line.mark with
  | some k => s.driveMark k e
  | none =>
    if s.tx.startDue then s.driveStart e
    else if s.tx.attempt = .driving then s.driveFrame e
    else { level := e.others, mark := none, driven := s.tx.driven, happenings := [], receiverDone := false }

/-- The receiver's part of a bit time: its next state, and FRAME_RECEIVED or BAD_FRAME where the level ends a reception (R72). -/
def State.receiveBit (level : Level) (tie : Bool) (s : State) : Receiver × List Instr :=
  match s.rx.take s.trk.walk level with
  | .more r => (r, [])
  | .completed _ => (s.rx, [.frameReceived [level] tie])
  | .bad _ => (s.rx, [.badFrame [level]])
  | .dropped => (s.rx, [])

/-- What the line interface reports at a bit (R46, R47, R48, R57). -/
def State.lineReports (r : Run) (tie : Bool) (s : State) : List Instr :=
  if s.ctl.station = .lineFault .stuck then
    if r.level = recessive ∧ r.length = Config.stuckRun then [.lineClear] else []
  else if r.level = dominant then
    if r.length = Config.markRun then [.markRecognised tie]
    else if r.length = Config.stuckRun then [.stuck]
    else []
  else
    (if s.trk.inMark then [.markEnd] else []) ++
      (if r.length % Config.boundaryRun = 0 ∧ !s.trk.walk.notOpen then [.slotBoundary] else [])

/-- The round timer after one more bit time (R49). -/
def RoundTimer.advance : RoundTimer → RoundTimer
  | .running b => .running (b + 1)
  | .stopped => .stopped
  | .expired => .expired

/-- The happenings of a bit time with a tick of that bit at its place (R131). The tick samples `pins` (R127). -/
def TickPlace.order (pins : BitVec 16) (happenings : List Instr) : TickPlace → List Instr
  | .last => happenings ++ [.tick { raw := pins }]
  | .first => .tick { raw := pins } :: .inputAccepted :: happenings
  | .within posted => .tick { raw := pins, within := some posted } :: happenings

/-- One bit time of the line (R45–R50, R72, R93, R94, R125). A tick of the tick timer samples what the
contact pins present in this bit time (R127). -/
def State.bitTime (cfg : Configuration) (s : State) : State :=
  let e := s.lineIn.headD quietBit
  let d := s.drive e
  let run := runAfter s.line.run d.level
  let rx := if d.receiverDone || !s.ctl.station.receives then (s.rx, []) else s.receiveBit d.level e.tie
  let clocks := s.line.clocks + cfg.bitClocks
  let ticked := decide (Config.tickClocks ≤ clocks)
  let happenings := d.happenings ++ rx.2 ++ s.lineReports run e.tie
  State.enqueue (if ticked then e.tick.order s.inputPins happenings else happenings)
    { s with
      lineIn := s.lineIn.tail
      line := { run := some run, mark := d.mark, clocks := if ticked then clocks - Config.tickClocks else clocks }
      trk := { s.trk with timer := s.trk.timer.advance }
      rx := rx.1
      tx := { s.tx with driven := d.driven } }

/-- The round timer is about to take round bit P × 64 (R49): a station's own mark begins at that bit. After an entry from LOADING
that is the (P × 64)th level taken (log 20). -/
def State.timerRunsOut (cfg : Configuration) (s : State) : Bool :=
  match s.trk.timer with
  | .running b => decide (Config.periodBits * cfg.period ≤ b + 1)
  | .stopped => false
  | .expired => false

/-- The last 6 bits taken were recessive (R50). -/
def State.sixRecessive (s : State) : Bool :=
  match s.line.run with
  | none => false
  | some r => r.level && decide (Config.boundaryRun ≤ r.length)

/-- What falls due before the next bit time, with no time passing: an acceptance of the latest tick (R127), the timer's expiry
(R49), a mark (R50). The expiry comes before the level of its round bit is taken, so where that level closes the walk (R55) or is the
10th of another's mark (R56) the walk is still OPEN and an overrun is counted (R51; log 23, DESIGN CHOICE, unsafe). -/
def State.dueNow (cfg : Configuration) (s : State) : List Instr :=
  if (s.inp.map (acceptanceDue cfg)).getD false then [.inputAccepted]
  else if s.timerRunsOut cfg then [.roundTimerExpiry]
  else if s.mayMark ∧ s.sixRecessive then [.markBegin]
  else []

/-- A byte of data clocked in (R144, R145): a byte nobody drives reads FFh; with the 512th byte the reading is complete. -/
def State.takeByte (s : State) : State :=
  let b := s.cfgIn.headD 0xFF
  let t := { s with cfgIn := s.cfgIn.tail }
  if Config.imageBytes ≤ s.ldr.buffer.length + 1 then t.enqueue [.readingComplete [b]]
  else { t with ldr := { t.ldr with buffer := t.ldr.buffer ++ [b] } }

/-- One byte time of READING (R144): a byte of the command and the address goes out, or one of data comes in. After a read cut short
the memory's chip select goes low again first (R147; log 11). -/
def State.readByte (s : State) : State :=
  if s.ldr.selectLow then
    match s.ldr.command with
    | _ :: rest => { s with ldr := { s.ldr with command := rest } }
    | [] => s.takeByte
  else { s with ldr := { s.ldr with selectLow := true } }

/-- What the contact pins present in the step of time that passes (R124, R127): the next of the levels to come, and past the last of them
what they presented before (log 22). -/
def State.presentContacts (s : State) : State :=
  { s with inputPins := s.contactIn.headD s.inputPins, contactIn := s.contactIn.tail }

/-- One step of time (log 2): nothing in the reset condition, in WAITING and in CONFIG_FAULT. What falls due takes no time. The checks
complete on what the contact pins present then (R126). -/
def State.clock (s : State) : State :=
  if s.power ≠ .running then s
  else match s.ldr.config with
    | some cfg => match s.dueNow cfg with
      | [] => s.presentContacts.bitTime cfg
      | c :: cs => s.enqueue (c :: cs)
    | none => match s.ldr.phase with
      | .reading => s.presentContacts.readByte
      | .checking => s.presentContacts.enqueue [.checkingComplete s.presentContacts.inputPins]
      | .waiting => s
      | .idle => s

end Sys2Proof.Machine
end

