-- ==== Sys2Proof/Machine/Dispatch.lean ====
section
/-! DEFINITION. One arm per command. -/

namespace Sys2Proof.Machine

def exec (i : Instr) (s : State) : Host.Outcome State Fault Refusal :=
  match i with
  | .powerOn strap => Sys2Proof.Machine.execPowerOn strap s
  | .resetNLow => Sys2Proof.Machine.execResetNLow s
  | .resetNRising strap => Sys2Proof.Machine.execResetNRising strap s
  | .readingComplete bytes => Sys2Proof.Machine.execReadingComplete bytes s
  | .checkingComplete raw => Sys2Proof.Machine.execCheckingComplete raw s
  | .roundTimerExpiry => Sys2Proof.Machine.execRoundTimerExpiry s
  | .markBegin => Sys2Proof.Machine.execMarkBegin s
  | .markFailed => Sys2Proof.Machine.execMarkFailed s
  | .markRelease => Sys2Proof.Machine.execMarkRelease s
  | .markRecognised lossFirst => Sys2Proof.Machine.execMarkRecognised lossFirst s
  | .markEnd => Sys2Proof.Machine.execMarkEnd s
  | .slotBoundary => Sys2Proof.Machine.execSlotBoundary s
  | .startBit taken => Sys2Proof.Machine.execStartBit taken s
  | .collision bit => Sys2Proof.Machine.execCollision bit s
  | .transceiverFault bit => Sys2Proof.Machine.execTransceiverFault bit s
  | .attemptSent => Sys2Proof.Machine.execAttemptSent s
  | .frameReceived levels lossFirst => Sys2Proof.Machine.execFrameReceived levels lossFirst s
  | .badFrame levels => Sys2Proof.Machine.execBadFrame levels s
  | .stuck => Sys2Proof.Machine.execStuck s
  | .lineClear => Sys2Proof.Machine.execLineClear s
  | .tick sample => Sys2Proof.Machine.execTick sample s
  | .inputAccepted => Sys2Proof.Machine.execInputAccepted s
  | .chipSelectFalling => Sys2Proof.Machine.execChipSelectFalling s
  | .readStatus part => Sys2Proof.Machine.execReadStatus part s
  | .readCounters part => Sys2Proof.Machine.execReadCounters part s
  | .readRoster first last part => Sys2Proof.Machine.execReadRoster first last part s
  | .readPoints station part => Sys2Proof.Machine.execReadPoints station part s
  | .readTerms part => Sys2Proof.Machine.execReadTerms part s
  | .takeEvents n part => Sys2Proof.Machine.execTakeEvents n part s
  | .withdraw part => Sys2Proof.Machine.execWithdraw part s
  | .rejoin part => Sys2Proof.Machine.execRejoin part s
  | .repack part => Sys2Proof.Machine.execRepack part s
  | .clearCounters part => Sys2Proof.Machine.execClearCounters part s
  | .restart part => Sys2Proof.Machine.execRestart part s
  | .loadConfig image part => Sys2Proof.Machine.execLoadConfig image part s
  | .malformed bits => Sys2Proof.Machine.execMalformed bits s

end Sys2Proof.Machine
end

