-- ==== Sys2Proof/Safety.lean ====
section
/-! DEFINITION. The laws of the device: what every state of a safe run satisfies. The spec calls most of them "a law of the device";
each is stated so that a step can be shown to keep it. -/

namespace Sys2Proof.Machine

/-! ### The roster (R2, R3, R20) -/

/-- A record obeys R2 and R3: UNSEEN with nothing recorded, or a presence that follows from age, cadence and grace, with an absent
reason exactly while ABSENT and a recorded width of 1 to 8 bytes where there is one. -/
def Member.lawful (grace : Nat) (r : Member) : Prop :=
  r = Member.unseen ∨
    (r.presence ≠ .unseen ∧ r.age ≤ 255 ∧ r.cadence.isSome ∧
      r.presence = presenceOf r.age (r.cadence.getD .one) grace ∧
      (r.reason.isSome ↔ r.presence = .absent) ∧
      1 ≤ r.width.getD 1 ∧ r.width.getD 1 ≤ 8)

/-- The roster law: every record is lawful under the configured grace; without a configuration every record is UNSEEN (R1, R3). -/
def RosterLaw (s : State) : Prop :=
  match s.ldr.config with
  | none => ∀ n, s.member n = Member.unseen
  | some cfg => 2 ≤ cfg.grace ∧ cfg.grace ≤ 8 ∧ s.ldr.phase = .idle ∧ ∀ n, (s.member n).lawful cfg.grace

/-- The field law (R2, R10): a peer that is not UNSEEN has its width, sequence, tag and flags; the own-number record and an UNSEEN one
have none of them, and no record has a cadence while UNSEEN. -/
def FieldLaw (s : State) : Prop :=
  ∀ cfg, s.ldr.config = some cfg → ∀ n,
    let r := s.member n
    (n ≠ cfg.own → r.presence ≠ .unseen →
      r.width.isSome ∧ r.lastSeq.isSome ∧ r.tag.isSome ∧ r.flags.isSome) ∧
    (n = cfg.own → r.width = none ∧ r.lastSeq = none ∧ r.tag = none ∧ r.flags = none ∧ r.placement = .none)

/-! ### The allocation table (R11) -/

/-- Entries follow one another from a point on, each of 1 to 64 points. -/
def contiguousFrom (start : Nat) : List Entry → Prop
  | [] => True
  | e :: es => e.offset = start ∧ 1 ≤ e.length ∧ e.length ≤ 64 ∧ contiguousFrom (start + e.length) es

/-- The allocation law (R11): contiguous from point 0, at most 512 points, no station twice, none for an UNSEEN record or for the
own number; and a record without a placement is an UNSEEN one or the own number's (R2). -/
def AllocationLaw (s : State) : Prop :=
  contiguousFrom 0 s.img.table ∧ freePointer s.img.table ≤ Config.poolPoints ∧
    (s.img.table.map (·.station)).Nodup ∧
    (∀ e ∈ s.img.table, (s.member e.station).presence ≠ .unseen ∧
      ∀ cfg, s.ldr.config = some cfg → e.station ≠ cfg.own) ∧
    ∀ cfg, s.ldr.config = some cfg → ∀ n, n ≠ cfg.own →
      ((s.member n).placement = .none ↔ (s.member n).presence = .unseen)

/-! ### The terms (R27, R37) -/

/-- A count lies within its hold or its release (R37). -/
def Phase.countLaw (t : Term) : Phase → Prop
  | .off => True
  | .on => True
  | .arming c => 1 ≤ c ∧ c ≤ t.hold
  | .disarming c => 1 ≤ c ∧ c ≤ t.release

/-- The term law (R27, R37): counts within hold and release; states outside the table, or without one, at their reset values. -/
def TermLaw (s : State) : Prop :=
  match s.ldr.config with
  | none => ∀ j, s.eng.terms.get j = TermState.reset
  | some cfg => s.ldr.phase = .idle ∧ ∀ j : TermNo, match cfg.terms[j.val]? with
    | none => s.eng.terms.get j = TermState.reset
    | some t => (s.eng.terms.get j).phase.countLaw t

/-! ### The outputs (R136) -/

/-- The output law (R136): all low in LOADING and CONFIG_FAULT; otherwise each output at its safe level, or at its term's held
value through invert where the state follows terms and the output has a source. -/
def OutputLaw (s : State) : Prop :=
  (s.ctl.station.unconfigured = true → s.drv.levels = 0) ∧
  (s.ctl.station.unconfigured = false → ∀ cfg, s.ldr.config = some cfg → ∀ i : Fin 8,
    s.drv.levels.getLsbD i.val =
      match s.ctl.station.followsTerms, (cfg.outputs.get i).source with
      | true, some j => (s.drv.held.getD 0).getLsbD j.val != (cfg.outputs.get i).invert
      | true, none => (cfg.outputs.get i).safe
      | false, _ => (cfg.outputs.get i).safe)

/-! ### The queue and the counts (R163, R20, R64, R87, R102) -/

/-- The queue holds at most 32 entries; the lost-event count is 16 bits wide (R163). -/
def QueueLaw (s : State) : Prop := s.tap.queue.length ≤ Config.queueRoom ∧ s.tap.lostEvents ≤ 65535

/-- The station counters are 16 bits wide, the restart count and the per-member counts 8 (R20, R64, R87, R102, R104). -/
def CountLaw (s : State) : Prop :=
  (∀ c ∈ s.cnt.toList, c ≤ 65535) ∧ s.ctl.restarts ≤ 255 ∧
    ∀ n, (s.member n).missed ≤ 255 ∧ (s.member n).repeats ≤ 255 ∧ (s.member n).tagChanges ≤ 255

/-! ### The station (R53, R88, R89, R104, R117, R142, R144) -/

/-- Station state, loader, walk, timer and sender agree: a configuration is held exactly outside LOADING and CONFIG_FAULT, the loader
is idle outside LOADING, the walk moves and the receiver works only in receiving states, the timer and marks only in timing states,
an attempt or a pending withdrawal only in ACTIVE, the cursor is at most H, and the memory's pins are driven only in READING. -/
def StationLaw (s : State) : Prop :=
  (s.ldr.config.isSome = !s.ctl.station.unconfigured) ∧
    (s.ldr.phase ≠ .idle → s.ctl.station = .loading) ∧
    (s.ctl.station.receives = false → s.trk.walk = .idle ∧ s.trk.inMark = false) ∧
    (s.ctl.station.timing = false → s.trk.timer = .stopped ∧ s.trk.markDue = false ∧ s.line.mark = none) ∧
    (s.tx.attempt ≠ .idle ∨ s.tx.kind ≠ none → s.ctl.station = .active) ∧
    (s.ctl.withdrawalPending = true → s.ctl.station = .active) ∧
    (∀ cfg n, s.ldr.config = some cfg → s.trk.walk = .opened (.slot n) → n ≤ cfg.high) ∧
    (s.ldr.phase ≠ .reading → s.ldr.command = [] ∧ s.ldr.selectLow = false) ∧
    (s.power ≠ .running → s.ctl.station = .loading ∧ s.ldr.phase = .idle ∧ s.tap.trans = .idle)

/-! ### The configuration (R25, R148, R150, R151) and the sender (R88, R103, R104) -/

/-- A configuration within the ranges that the thirteen checks hold it to (R25, R148, R150–R152). -/
def Configuration.inRange (cfg : Configuration) : Prop :=
  cfg.own ≤ cfg.high ∧ 1 ≤ cfg.period ∧ cfg.period ≤ 255 ∧ cfg.phase < cfg.cadence.rounds ∧
    2 ≤ cfg.grace ∧ cfg.grace ≤ 8 ∧ 2 ≤ cfg.listen ∧ cfg.listen ≤ 16 ∧ 1 ≤ cfg.width ∧ cfg.width ≤ 8 ∧
    cfg.terms.length ≤ 16 ∧
    (∀ t ∈ cfg.terms, 1 ≤ t.literals.length ∧ t.literals.length ≤ 8 ∧ t.hold ≤ 255 ∧ t.release ≤ 255 ∧
      (t.kind = .count → 1 ≤ t.k ∧ t.k ≤ t.literals.length) ∧
      ∀ l ∈ t.literals, l.station ≤ cfg.high ∧ (l.station = cfg.own → l.point.val < 8 * cfg.width)) ∧
    (∀ i : Fin 64, i.val < 8 * cfg.width → cfg.points.get i ≠ .none ∧
      ∀ j, cfg.points.get i = .term j → j.val < cfg.terms.length) ∧
    ∀ (o : Fin 8) j, (cfg.outputs.get o).source = some j → j.val < cfg.terms.length

/-- The configuration law: what the blocks hold has passed the checks, and the listen count is below L (R104, R112). -/
def ConfigurationLaw (s : State) : Prop :=
  ∀ cfg, s.ldr.config = some cfg →
    cfg.inRange ∧ ∀ count, s.ctl.station = .listen count → count < cfg.listen

/-- The loss law (R88, R97, R103, R119): the consecutive-loss count is 0 without a configuration and in LISTEN, below the limit in
ACTIVE, at the limit in LINE_FAULT with reason TX and while a transmit fault is held, which only LINE_FAULT holds. -/
def LossLaw (s : State) : Prop :=
  s.tx.losses ≤ Config.lossLimit ∧
    (s.ctl.station.unconfigured = true → s.tx.losses = 0) ∧
    (∀ count, s.ctl.station = .listen count → s.tx.losses = 0) ∧
    (s.ctl.station = .active → s.tx.losses < Config.lossLimit) ∧
    (s.ctl.station = .lineFault .tx → s.ctl.txHeld = true) ∧
    (s.ctl.txHeld = true → s.tx.losses = Config.lossLimit ∧ ∃ r, s.ctl.station = .lineFault r)

/-! ### Own points, input filters and held values (R21, R126, R127, R135) -/

/-- The presence law (R21, R126, R135): own points, input filters and held values exist exactly while a configuration is held. -/
def PresenceLaw (s : State) : Prop :=
  s.img.own.isSome = s.ldr.config.isSome ∧ s.inp.isSome = s.ldr.config.isSome ∧
    s.drv.held.isSome = s.ldr.config.isSome

/-- Every candidate count is at most its settle count, which it reaches at a tick with an acceptance due (R127; log 9). -/
def CandidateLaw (s : State) : Prop :=
  ∀ cfg inputs, s.ldr.config = some cfg → s.inp = some inputs →
    ∀ j : Fin 16, (inputs.get j).count ≤ 2 ^ (cfg.settle.get (groupOf j)).val

/-- Between ticks, no acceptance due, every candidate count is below its settle count (R126). -/
def SettledLaw (s : State) : Prop :=
  ∀ cfg inputs, s.ldr.config = some cfg → s.inp = some inputs →
    ∀ j : Fin 16, (inputs.get j).count < 2 ^ (cfg.settle.get (groupOf j)).val

/-- Every law at once. -/
def Lawful (s : State) : Prop :=
  RosterLaw s ∧ AllocationLaw s ∧ TermLaw s ∧ OutputLaw s ∧ QueueLaw s ∧ CountLaw s ∧ StationLaw s ∧
    ConfigurationLaw s ∧ LossLaw s ∧ FieldLaw s ∧ PresenceLaw s ∧ SettledLaw s

/-! ### What the statements speak of -/

/-- The part at an entry to LOADING (R1, R27, R41, R63, R80, R88, R126, R135): every block at its reset values but for the
controller, the loader, the tap and the counters, which the cause of the entry gives; what lies outside the part as it was. -/
def State.atLoading (s : State) (strap : Strap) (ctl : Controller) (ldr : Loader) (tap : Tap) (cnt : Counters) : State :=
  { power := .running, strap := strap, tapSelectLow := s.tapSelectLow, inputPins := s.inputPins, ctl := ctl, ldr := ldr,
    img := Image.empty, eng := TermEngine.reset, line := LineInterface.reset, trk := RoundTracker.reset,
    rx := Receiver.fresh, tx := Sender.reset, inp := none, within := none, drv := OutputDriver.reset, tap := tap, cnt := cnt,
    lineIn := s.lineIn, cfgIn := s.cfgIn, contactIn := s.contactIn, pending := s.pending }

/-- The entry of a STATE event in an emptied queue at round count 0 (R106, R109, R122, R163). -/
def loadingEvent (detail : BitVec 10) : Event :=
  { kind := .state, subject := 0, stamp := 0, detail := detail, afterLoss := false }

/-- The tap of `t` is that of `s` with one STATE event posted, under the mask and the round count of `t` (R122, R163). -/
def PostsState (code detail : Nat) (s t : State) : Prop :=
  t.tap = (State.post .state code detail { t with tap := s.tap }).tap

/-- Every output stands at its configured safe level (R136). -/
def SafeOutputs (cfg : Configuration) (levels : BitVec 8) : Prop :=
  ∀ i : Fin 8, levels.getLsbD i.val = (cfg.outputs.get i).safe

/-- The open transaction holds this complete command (R155). -/
def State.holds (s : State) (code : Byte) (args : List Byte) (l : Latch) : Prop :=
  s.tap.trans = .opened { code := some code, args := args, spare := [], latch := some l }

/-- The levels of the first `clocks` clock periods of a transaction whose command has `args` argument bytes and this response (R156): the
status byte, 00h for each argument byte, the response, 00h beyond it; most significant bits first. -/
def outLevels (status : Byte) (args : Nat) (response : List Byte) (clocks : Nat) : List Level :=
  (List.range clocks).map fun i =>
    ((status :: (List.replicate args 0 ++ response)).getD (i / 8) 0).getLsbD (7 - i % 8)

/-- The levels that the open transaction of a complete command has shifted out after `clocks` further clock periods. -/
def State.outAfter (s : State) (args : Nat) (l : Latch) (clocks : Nat) : List Level :=
  outLevels s.tap.status args l.response (s.tap.dout.length + clocks)

/-- The open transaction has taken in bits of this sequence, one for each clock period, and spells no known command yet (R155, R156). -/
def State.underway (s : State) (bits : List Level) : Prop :=
  s.tap.trans = .opened (Opened.ofBits (bits.take s.tap.dout.length)) ∧ s.tap.dout.length ≤ bits.length

/-- A transaction ended at chip select rising with a result and nothing else (R156): a staged copy is published. -/
def State.ended (s : State) (result : TapResult) (out : List Level) : State :=
  { s with
    tapSelectLow := false
    tap := { s.tap with
      trans := .idle, staged := none, published := s.tap.staged.getD s.tap.published, lastResult := result,
      dout := out } }

/-- The levels complete a foreign reception with this body, begun in this walk, which is the walk still; no attempt waits on it
(R72, R77–R79). -/
def State.hears (s : State) (cfg : Configuration) (levels : List Level) (walk : Walk) (body : List Byte) : Prop :=
  s.ldr.config = some cfg ∧ s.ctl.station.receives = true ∧ s.rx.takeAll s.trk.walk levels = some (.completed body) ∧
    s.rx.ownMark = false ∧ s.receptionWalk = walk ∧ s.trk.walk = walk ∧ s.tx.attempt ≠ .takenOver

/-- The turn that R90 asks about: ACTIVE, and a withdrawal pending or the round count modulo the cadence equal to the phase. -/
def State.hadTurn (s : State) (cfg : Configuration) : Prop :=
  s.ctl.station = .active ∧
    (s.ctl.withdrawalPending = true ∨ s.trk.round.toNat % cfg.cadence.rounds = cfg.phase)

end Sys2Proof.Machine
end

