-- ==== Sys2Proof/WellFormed.lean ====
section
/-! DEFINITION. Which command terms name a happening at all. `exec` has a meaning for every term; these checks say which terms
the outside can bring. -/

namespace Sys2Proof

/-- The operands of a command are ones its happening can carry. -/
def Instr.wf (i : Instr) : Bool :=
  match i with
  -- R144: the loader takes at most 512 bytes, and the last of them has just arrived
  | .readingComplete bytes => decide (0 < bytes.length ∧ bytes.length ≤ Config.imageBytes)
  -- R94: the start bit is dominant, so a collision is found at a later bit; R67: no frame is longer than 151 bits
  | .collision bit => decide (0 < bit ∧ bit < 151)
  | .transceiverFault bit => decide (bit < 151)
  -- R77, R74–R76: a reception ends at a bit
  | .frameReceived levels _ => !levels.isEmpty
  | .badFrame levels => !levels.isEmpty
  -- R146: the command is complete when all 512 argument bytes have arrived
  | .loadConfig image _ => decide (image.length = Config.imageBytes)
  -- R156: an unknown code, or a command that is not complete
  | .malformed bits => !tapComplete bits.received && decide (bits.spare.length < 8)
  | .powerOn _ | .resetNLow | .resetNRising _ | .checkingComplete _ | .roundTimerExpiry | .markBegin | .markFailed
  | .markRelease | .markRecognised _ | .markEnd | .slotBoundary | .startBit _ | .attemptSent | .stuck | .lineClear
  | .tick _ | .inputAccepted | .chipSelectFalling | .readStatus _ | .readCounters _ | .readRoster _ _ _
  | .readPoints _ _ | .readTerms _ | .takeEvents _ _ | .withdraw _ | .rejoin _ | .repack _ | .clearCounters _
  | .restart _ => true

end Sys2Proof
end

