-- ==== Sys2Proof/Certificates/Slice0/Obligations.lean ====
section
/-! DEFINITION. The statements for the provers. -/

section
open Sys2Proof Sys2Proof.Machine

/-! ### The queue of commands and time -/

/-- One step with a command at the front of the queue is that command's `exec` on the queue's rest. -/
def Obligations.FrontCommandRunsOnQueueRest : Prop :=
  ∀ (c : Instr) (rest : List Instr) (s : State),
    step { s with pending := c :: rest } = exec c { s with pending := rest }

/-- Every command answers a next state in every state, and leaves what lies outside the part alone: the waiting commands, the
levels to come on the line and the contacts, the memory's bytes. That no command stops the part is log 1. -/
def Obligations.EveryCommandAnswersNextState : Prop :=
  ∀ (c : Instr) (s : State),
    ∃ t, exec c s = .next t ∧ t.pending = s.pending ∧ t.lineIn = s.lineIn ∧ t.cfgIn = s.cfgIn ∧
      t.contactIn = s.contactIn

/-- A happening that reports what its conditions exclude changes nothing (log 1): a mark begun in an open walk, outside the timing
states or while the station drives (R50), a start bit without a frame due (R93), a collision at a bit driven dominant, a transceiver
fault at one driven recessive, either at a bit passed (R94, log 19), a frame whose levels end no reception so, and the rest as listed;
with no command waiting, time moves nothing in the reset condition, in WAITING and in CONFIG_FAULT (log 2); a tick without a
configuration moves only what the pins present (R125; the field is the model's, log 3). -/
def Obligations.UnmetHappeningChangesNothing : Prop :=
  (∀ s : State,
      (s.power = .running → ∀ strap, exec (.resetNRising strap) s = .next s) ∧
      (∀ bytes, s.ldr.phase ≠ .reading ∨ (s.ldr.buffer ++ bytes).length ≠ 512 →
        exec (.readingComplete bytes) s = .next s) ∧
      (s.ldr.phase ≠ .checking → ∀ raw, exec (.checkingComplete raw) s = .next s) ∧
      ((∀ b, s.trk.timer ≠ .running b) → exec .roundTimerExpiry s = .next s) ∧
      (s.trk.markDue = false ∨ s.ctl.station.timing = false ∨ (∃ cursor, s.trk.walk = .opened cursor) ∨
          s.line.mark ≠ none ∨ s.tx.attempt = .driving →
        exec .markBegin s = .next s) ∧
      (s.line.mark = none → exec .markFailed s = .next s ∧ exec .markRelease s = .next s) ∧
      (s.ctl.station.receives = false → ∀ first levels,
        exec (.markRecognised first) s = .next s ∧ exec (.frameReceived levels first) s = .next s ∧
          exec (.badFrame levels) s = .next s ∧ exec .stuck s = .next s) ∧
      (∀ levels, (∀ body, s.rx.takeAll s.trk.walk levels ≠ some (.completed body)) → ∀ first,
        exec (.frameReceived levels first) s = .next s) ∧
      (∀ levels, (∀ kind, s.rx.takeAll s.trk.walk levels ≠ some (.bad kind)) → exec (.badFrame levels) s = .next s) ∧
      (s.trk.inMark = false ∨ (∃ cursor, s.trk.walk = .opened cursor) → exec .markEnd s = .next s) ∧
      (s.ctl.station ≠ .active ∨ s.tx.attempt ≠ .idle ∨ s.tx.kind = none → ∀ taken, exec (.startBit taken) s = .next s) ∧
      (s.tx.attempt ≠ .driving → exec .attemptSent s = .next s) ∧
      (∀ bit, s.tx.attempt ≠ .driving ∨ bit + 1 < s.tx.driven ∨ s.tx.line[bit]? ≠ some recessive →
        exec (.collision bit) s = .next s) ∧
      (∀ bit, s.tx.attempt ≠ .driving ∨ bit + 1 < s.tx.driven ∨ s.tx.line[bit]? ≠ some dominant →
        exec (.transceiverFault bit) s = .next s) ∧
      (s.ctl.station ≠ .lineFault .stuck → exec .lineClear s = .next s) ∧
      (s.inp = none → exec .inputAccepted s = .next s)) ∧
  (∀ s : State, s.pending = [] →
      (s.power ≠ .running ∨ (s.ldr.config = none ∧ (s.ldr.phase = .waiting ∨ s.ldr.phase = .idle))) →
      step s = .next s) ∧
  (∀ (s : State) (sample : Sample), s.ldr.config = none →
      exec (.tick sample) s = .next { s with inputPins := sample.raw })

/-- What time does; that a step on an empty queue is a bit time is log 2, what the line brings log 12, what the contacts present in it
log 22. (1) In a bit time without driving (R45, R49, R125) the run is lengthened or begun by the level the others drive, a running
timer counts one bit, the tick timer the bit's clocks, the contacts present their next levels, which a tick of that bit samples
(R127), and beside receiver and queue nothing else moves. (2) The run with that bit is reported (R46, R47, R48, R57): a dominant run
at its 10th bit as a mark and at its 64th as a stuck line, the first recessive bit after a mark as its end, a recessive run at each
multiple of 6 in an open walk as a boundary; in LINE_FAULT with reason STUCK only the 64th recessive bit, as a clear line. (3) A
running timer expires before the bit that would be round bit 64 × P and not sooner (R49; the bit counted first after an entry is log
20, the expiry at the bit of a close log 23), and a due mark begins after 6 recessive bits and not sooner (R50). (4) A mark is read
back at every bit: recessive fails it, its 12th bit releases it (R50). (5) The monitor compares each bit of the own frame (R94):
recessive read dominant is a collision, dominant read recessive a transceiver fault, the last bit read as driven ends the attempt as
sent (R96); and the start bit due is driven or the slot is taken (R93). -/
def Obligations.BitTimeMeasuresAndDrives : Prop :=
  (∀ (s : State) (cfg : Configuration) (e : LineBit) (rest : List LineBit),
      s.pending = [] → s.power = .running → s.ldr.config = some cfg → s.dueNow cfg = [] → s.lineIn = e :: rest →
      s.line.mark = none → s.tx.startDue = false → s.tx.attempt ≠ .driving → s.line.clocks < Config.tickClocks →
      ∃ t, step s = .next t ∧
        t = { s with
          lineIn := rest
          contactIn := s.contactIn.tail
          inputPins := s.contactIn.headD s.inputPins
          line := { s.line with run := t.line.run, clocks := t.line.clocks }
          trk := { s.trk with timer := t.trk.timer }
          rx := t.rx
          pending := t.pending } ∧
        t.line.run = some
          { level := e.others
            length := match s.line.run with
              | none => 1
              | some r => if r.level = e.others then r.length + 1 else 1 } ∧
        (∀ b, s.trk.timer = .running b → t.trk.timer = .running (b + 1)) ∧
        ((∀ b, s.trk.timer ≠ .running b) → t.trk.timer = s.trk.timer) ∧
        t.line.clocks = (s.line.clocks + 256 / 2 ^ cfg.rate.val) % 8000 ∧
        (∀ sample, .tick sample ∈ t.pending → sample.raw = t.inputPins) ∧
        ((∃ sample, .tick sample ∈ t.pending) ↔ 8000 ≤ s.line.clocks + 256 / 2 ^ cfg.rate.val)) ∧
  (∀ (s : State) (cfg : Configuration) (e : LineBit) (rest : List LineBit),
      s.pending = [] → s.power = .running → s.ldr.config = some cfg → s.dueNow cfg = [] → s.lineIn = e :: rest →
      s.line.mark = none → s.tx.startDue = false → s.tx.attempt ≠ .driving →
      ∃ t n, step s = .next t ∧ t.line.run = some { level := e.others, length := n } ∧
        (s.ctl.station ≠ .lineFault .stuck →
          ((.markRecognised e.tie ∈ t.pending) ↔ (e.others = dominant ∧ n = 10)) ∧
          ((.stuck ∈ t.pending) ↔ (e.others = dominant ∧ n = 64)) ∧
          ((.markEnd ∈ t.pending) ↔ (e.others = recessive ∧ s.trk.inMark = true)) ∧
          ((.slotBoundary ∈ t.pending) ↔
            (e.others = recessive ∧ 6 ∣ n ∧ ∃ cursor, s.trk.walk = .opened cursor)) ∧
          .lineClear ∉ t.pending) ∧
        (s.ctl.station = .lineFault .stuck →
          ((.lineClear ∈ t.pending) ↔ (e.others = recessive ∧ n = 64)) ∧
          (∀ first, .markRecognised first ∉ t.pending) ∧ .stuck ∉ t.pending ∧ .markEnd ∉ t.pending ∧
            .slotBoundary ∉ t.pending)) ∧
  (∀ (s : State) (cfg : Configuration), s.pending = [] → s.power = .running → s.ldr.config = some cfg →
      (∀ inputs, s.inp = some inputs → ∀ j : Fin 16, (inputs.get j).count < 2 ^ (cfg.settle.get (groupOf j)).val) →
      (∀ b, s.trk.timer = .running b →
        (64 * cfg.period ≤ b + 1 → step s = .next { s with pending := [.roundTimerExpiry] }) ∧
        (b + 1 < 64 * cfg.period → ∃ t, step s = .next t ∧ .roundTimerExpiry ∉ t.pending)) ∧
      (s.trk.timer = .expired → s.trk.markDue = true → s.ctl.station.timing = true →
        (∀ cursor, s.trk.walk ≠ .opened cursor) → s.line.mark = none → s.tx.attempt ≠ .driving →
        (∀ n, s.line.run = some { level := recessive, length := n } → 6 ≤ n →
          step s = .next { s with pending := [.markBegin] }) ∧
        ((∀ n, s.line.run = some { level := recessive, length := n } → n < 6) →
          ∃ t, step s = .next t ∧ .markBegin ∉ t.pending))) ∧
  (∀ (s : State) (cfg : Configuration) (e : LineBit) (rest : List LineBit) (k : Nat),
      s.pending = [] → s.power = .running → s.ldr.config = some cfg → s.dueNow cfg = [] → s.lineIn = e :: rest →
      s.line.mark = some k →
      let lost := e.others = recessive ∧ e.carries = false
      ∃ t run, step s = .next t ∧ t.line.mark = some (k + 1) ∧ t.line.run = some run ∧
        (run.level = recessive ↔ lost) ∧ ((.markFailed ∈ t.pending) ↔ lost) ∧
        ((.markRelease ∈ t.pending) ↔ (k + 1 = 12 ∧ ¬ lost))) ∧
  (∀ (s : State) (cfg : Configuration) (e : LineBit) (rest : List LineBit),
      s.pending = [] → s.power = .running → s.ldr.config = some cfg → s.dueNow cfg = [] → s.lineIn = e :: rest →
      s.line.mark = none →
      (s.tx.attempt = .driving → s.tx.driven < s.tx.line.length →
        let k := s.tx.driven
        let own := s.tx.line.getD k recessive
        let read := if e.others = dominant ∨ (own = dominant ∧ e.carries = true) then dominant else recessive
        ∃ t run, step s = .next t ∧ t.tx = { s.tx with driven := k + 1 } ∧ t.ltx = own ∧ t.line.run = some run ∧
          run.level = read ∧
          ((.collision k ∈ t.pending) ↔ (own = recessive ∧ read = dominant)) ∧
          ((.transceiverFault k ∈ t.pending) ↔ (own = dominant ∧ read = recessive)) ∧
          ((.attemptSent ∈ t.pending) ↔ (own = read ∧ k + 1 = s.tx.line.length))) ∧
      (s.tx.attempt = .idle → s.tx.kind ≠ none →
        ∃ t, step s = .next t ∧
          ((.startBit true ∈ t.pending) ↔ (e.others = dominant ∧ e.tie = true)) ∧
          ((.startBit false ∈ t.pending) ↔ ¬ (e.others = dominant ∧ e.tie = true)) ∧
          ((.transceiverFault 0 ∈ t.pending) ↔ (e.others = recessive ∧ e.carries = false))))

/-! ### Reset and loading -/

/-- What the spec gives every block in the reset condition, the empty published copy with every field among it (R155, R162), and the pins'
levels in it. -/
def Obligations.ResetConditionHoldsSpecValues : Prop :=
  State.reset.ctl = { station := .loading, withdrawalPending := false, txHeld := false, lastStop := none, restarts := 0 } ∧
    (∀ n, State.reset.member n =
      { presence := .unseen, reason := none, age := 0, cadence := none, width := none, lastSeq := none, tag := none,
        flags := none, heard := false, missed := 0, repeats := 0, tagChanges := 0, placement := .none }) ∧
    State.reset.img.table = [] ∧ State.reset.img.pool = { levels := 0, supplied := 0 } ∧
    State.reset.img.repackPending = false ∧ State.reset.img.own = none ∧
    (∀ j, State.reset.eng.terms.get j = { phase := .off, lastRaw := .unknown, byPolicy := false }) ∧
    State.reset.eng.stale = false ∧
    State.reset.trk.timer = .stopped ∧ State.reset.trk.markDue = false ∧ State.reset.trk.walk = .idle ∧
    State.reset.trk.round = 0 ∧
    State.reset.rx.state = .waiting ∧ State.reset.rx.bits = [] ∧ State.reset.rx.ownMark = false ∧
    State.reset.tx.attempt = .idle ∧ State.reset.tx.kind = none ∧ State.reset.tx.buffer = none ∧
    State.reset.tx.seq = 0 ∧ State.reset.tx.losses = 0 ∧
    State.reset.inp = none ∧ State.reset.drv = { held := none, levels := 0 } ∧
    State.reset.ldr = { phase := .idle, buffer := [], config := none, command := [], selectLow := false } ∧
    State.reset.tap.trans = .idle ∧ State.reset.tap.staged = none ∧ State.reset.tap.published.stamp = 0 ∧
    State.reset.tap.published.levels = 0 ∧ (∀ n, State.reset.tap.published.roster.get n = State.reset.member n) ∧
    State.reset.tap.published.table = [] ∧ State.reset.tap.published.pool = { levels := 0, supplied := 0 } ∧
    State.reset.tap.published.own = none ∧
    (∀ j, State.reset.tap.published.terms.get j = { phase := .off, lastRaw := .unknown, byPolicy := false }) ∧
    State.reset.tap.published.stale = false ∧ State.reset.tap.queue = [] ∧ State.reset.tap.lossMark = false ∧
    State.reset.tap.lastResult = .none ∧ State.reset.tap.lostEvents = 0 ∧
    (∀ c ∈ State.reset.cnt.toList, c = 0) ∧
    State.reset.lte = false ∧ State.reset.ltx = recessive ∧ State.reset.attn = false ∧
    State.reset.cfgSelectHigh = true ∧ (∀ half, State.reset.cfgClk half = false) ∧
    (∀ bit, State.reset.cfgDo bit = false) ∧ State.reset.tapDo = none

/-- The reset condition and its end (R106, R142, R143, R155). Power that becomes good, and RESET_N rising, enter LOADING with every
block at its reset values, begin the load that the strap selects, and put one STATE event into the emptied queue, its detail
POWER_ON at the first entry after power-up and RESET_PIN later. That POWER_ON in a running part, or in one held in RESET_N low, is a
new power-up is log 3 (the model's choice). RESET_N low returns the part to the reset condition at once, whatever runs: every block at
its reset values, the queue empty, enable released, transmit pin recessive, outputs low, ATTN released, the memory's pins at rest, the
tap's data output released. -/
def Obligations.ResetHoldsAndEndsInLoading : Prop :=
  (∀ (s : State) (strap : Strap),
      let entered (detail : BitVec 10) : State :=
        s.atLoading strap Controller.reset
          { phase := if strap = .memory then .reading else .waiting, buffer := [], config := none
            command := if strap = .memory then [0x03, 0x00, 0x00] else [], selectLow := decide (strap = .memory) }
          { Tap.reset with queue := [loadingEvent detail] } Counters.zero
      exec (.powerOn strap) s = .next (entered 0x00) ∧
      (s.power = .off → exec (.resetNRising strap) s = .next (entered 0x00)) ∧
      (s.power = .resetLow → exec (.resetNRising strap) s = .next (entered 0x01))) ∧
  (∀ s : State, ∃ t, exec .resetNLow s = .next t ∧
      t = { s.atLoading s.strap Controller.reset Loader.reset Tap.reset Counters.zero with power := t.power } ∧
      t.power ≠ .running ∧ t.lte = false ∧ t.ltx = recessive ∧ t.drv.levels = 0 ∧ t.attn = false ∧ t.cfgSelectHigh = true ∧
      (∀ half, t.cfgClk half = false) ∧ (∀ bit, t.cfgDo bit = false) ∧ t.tapDo = none)

/-- A load (R107, R144, R145, R151, R153). In READING, byte time by byte time (log 2, log 11), the read command and the address go out
on CFG_DO with the chip select low, and 512 bytes come in, FFh where the memory drives nothing; outside READING chip select is high,
clock and data output low. The 512th byte completes the image, and the loader enters CHECKING, which ends on what the contacts present
then (log 22). A pass: LISTEN with count 0, and every block starts from the configuration in the buffer: own points from constants and
accepted inputs, filters at the raw levels, timer from zero (which level it counts first is log 20), receiver afresh, outputs at their
safe levels. A failure: CONFIG_FAULT with the first failing check as fault reason and last stop reason, a STATE event with detail 60h
plus its number, no field taken. -/
def Obligations.LoadEndsInListenOrConfigFault : Prop :=
  (∀ s : State, s.pending = [] → s.power = .running → s.ldr.config = none → s.ldr.phase = .reading →
      let now : State := { s with contactIn := s.contactIn.tail, inputPins := s.contactIn.headD s.inputPins }
      (s.ldr.selectLow = true →
        s.cfgSelectHigh = false ∧ (∀ bit < 8, s.cfgClk (2 * bit) = false ∧ s.cfgClk (2 * bit + 1) = true) ∧
        (∀ b more, s.ldr.command = b :: more →
          step s = .next { now with ldr := { s.ldr with command := more } } ∧
            ∀ bit < 8, s.cfgDo bit = b.getLsbD (7 - bit)) ∧
        (s.ldr.command = [] →
          (s.ldr.buffer.length + 1 < 512 →
            step s = .next { now with
              cfgIn := s.cfgIn.tail, ldr := { s.ldr with buffer := s.ldr.buffer ++ [s.cfgIn.headD 0xFF] } }) ∧
          (s.ldr.buffer.length + 1 = 512 →
            step s = .next { now with
              cfgIn := s.cfgIn.tail, pending := [.readingComplete [s.cfgIn.headD 0xFF]] }))) ∧
      (s.ldr.selectLow = false →
        s.cfgSelectHigh = true ∧ step s = .next { now with ldr := { s.ldr with selectLow := true } })) ∧
  (∀ s : State, s.pending = [] → s.power = .running → s.ldr.config = none → s.ldr.phase = .checking →
      let pins := s.contactIn.headD s.inputPins
      step s = .next { s with
        contactIn := s.contactIn.tail, inputPins := pins, pending := [.checkingComplete pins] }) ∧
  (∀ s : State, s.ldr.phase ≠ .reading →
      s.cfgSelectHigh = true ∧ (∀ half, s.cfgClk half = false) ∧ ∀ bit, s.cfgDo bit = false) ∧
  (∀ (s : State) (bytes : List Byte), s.ldr.phase = .reading → (s.ldr.buffer ++ bytes).length = 512 →
      exec (.readingComplete bytes) s =
        .next { s with
          ldr := { s.ldr with
            phase := .checking, buffer := s.ldr.buffer ++ bytes, command := [], selectLow := false } }) ∧
  (∀ (s : State) (raw : BitVec 16), s.ldr.phase = .checking → (∀ r, imageFails s.ldr.buffer r = false) →
      ∃ t, exec (.checkingComplete raw) s = .next t ∧
        t = { s with
          inputPins := raw
          ctl := { s.ctl with station := .listen 0 }
          ldr := { phase := .idle, buffer := [], config := some (configurationOf s.ldr.buffer) }
          img := { s.img with own := t.img.own }
          line := { run := none, mark := none, clocks := 0 }
          trk := { s.trk with timer := .running 0 }
          rx := t.rx
          tx := t.tx
          inp := t.inp
          drv := { held := some 0, levels := t.drv.levels }
          tap := t.tap } ∧
        t.rx.state = .waiting ∧ t.rx.bits = [] ∧ t.rx.ownMark = false ∧
        t.tx = { s.tx with attempt := .idle, kind := none, buffer := none, driven := 0, losses := 0 } ∧
        (∃ own inputs, t.img.own = some own ∧ t.inp = some inputs ∧
          (∀ j : Fin 16, inputs.get j = { accepted := raw.getLsbD j.val, count := 0 }) ∧
          ∀ i : Fin 64, own.getLsbD i.val =
            (decide (i.val < 8 * (configurationOf s.ldr.buffer).width) &&
              match (configurationOf s.ldr.buffer).points.get i with
              | .constant level => level
              | .input j => raw.getLsbD j.val
              | .term _ => false
              | .none => false)) ∧
        SafeOutputs (configurationOf s.ldr.buffer) t.drv.levels ∧ PostsState 2 0x10 s t) ∧
  (∀ (s : State) (raw : BitVec 16) (r : CheckReason), s.ldr.phase = .checking → imageFails s.ldr.buffer r = true →
      (∀ r', r'.number < r.number → imageFails s.ldr.buffer r' = false) →
      ∃ t, exec (.checkingComplete raw) s = .next t ∧
        t = { s with
          ctl := { s.ctl with station := .configFault r, lastStop := some (.check r) }
          ldr := { phase := .idle, buffer := [], config := none }
          tx := { s.tx with attempt := .idle, kind := none, buffer := none, driven := 0 }
          drv := { s.drv with levels := 0 }
          tap := t.tap } ∧
        PostsState 1 (0x60 + r.number) s t)

/-! ### The round -/

/-- The image and what the blocks take from it. An image that passes gives a configuration within the ranges the checks are for (R25,
R148, R150–R152); its fields stand at their offsets (R169), kinds, policies and own point sources by their codes (R150); and what each of
the thirteen checks compares, in the image's own bytes (R150–R152). -/
def Obligations.PassingImageGivesConfiguration : Prop :=
  (∀ img : List Byte, (∀ r, imageFails img r = false) → (configurationOf img).inRange) ∧
  (∀ img : List Byte, (∀ r, imageFails img r = false) →
      let at' (i : Nat) : Nat := (img.getD i 0).toNat
      let cfg := configurationOf img
      cfg.own.val = at' 1 ∧ cfg.high.val = at' 2 ∧ cfg.tag.toNat = (256 * at' 3 + at' 4) % 1024 ∧
        cfg.rate.val = at' 5 ∧ cfg.period = at' 6 ∧ cfg.cadence.rounds = 2 ^ at' 7 ∧ cfg.phase = at' 8 ∧
        cfg.grace = at' 9 ∧ cfg.listen = at' 10 ∧ cfg.width = at' 11 ∧ cfg.terms.length = at' 12 ∧
        (∀ g : Fin 4, (cfg.settle.get g).val = at' (13 + g.val) % 8) ∧
        (∀ g < 4, cfg.enables.getLsbD g = Nat.testBit (at' 17) g) ∧
        (∀ b < 13, cfg.mask.getLsbD b = Nat.testBit (256 * at' 18 + at' 19) b) ∧
        (∀ (j : Nat) (t : Term), cfg.terms[j]? = some t →
          (t.kind = .all ↔ at' (96 + 21 * j) / 16 = 0) ∧ (t.kind = .any ↔ at' (96 + 21 * j) / 16 = 1) ∧
          (t.kind = .count ↔ at' (96 + 21 * j) / 16 = 2) ∧ (t.policy = .forceOn ↔ at' (96 + 21 * j) % 16 = 0) ∧
          (t.policy = .forceOff ↔ at' (96 + 21 * j) % 16 = 1) ∧ (t.policy = .hold ↔ at' (96 + 21 * j) % 16 = 2) ∧
          t.k = at' (96 + 21 * j + 1) ∧ t.hold = at' (96 + 21 * j + 2) ∧ t.release = at' (96 + 21 * j + 3) ∧
            t.literals.length = at' (96 + 21 * j + 4) ∧
            ∀ (m : Nat) (l : Literal), t.literals[m]? = some l →
              l.station.val = at' (96 + 21 * j + 5 + 2 * m) ∧ l.point.val = at' (96 + 21 * j + 6 + 2 * m) % 128 ∧
                (l.sense = .trueWhenLow ↔ 128 ≤ at' (96 + 21 * j + 6 + 2 * m))) ∧
        (∀ i : Fin 64,
          (cfg.points.get i = .constant false ↔ at' (32 + i.val) = 0x00) ∧
            (cfg.points.get i = .constant true ↔ at' (32 + i.val) = 0x01) ∧
            (∀ j : Fin 16, cfg.points.get i = .input j ↔ at' (32 + i.val) = 0x10 + j.val) ∧
            ∀ j : Fin 16, cfg.points.get i = .term j ↔ at' (32 + i.val) = 0x20 + j.val) ∧
        ∀ o : Fin 8,
          ((cfg.outputs.get o).source = none ↔ at' (432 + 3 * o.val) = 255) ∧
            (∀ j, (cfg.outputs.get o).source = some j → j.val = at' (432 + 3 * o.val)) ∧
            ((cfg.outputs.get o).invert = true ↔ at' (433 + 3 * o.val) ≠ 0) ∧
            ((cfg.outputs.get o).safe = true ↔ at' (434 + 3 * o.val) ≠ 0)) ∧
  (∀ img : List Byte,
      let at' (i : Nat) : Nat := (img.getD i 0).toNat
      (img.length = 512 →
        (imageFails img .imageCheck = true ↔ (crc (img.take 510)).toNat ≠ 256 * at' 510 + at' 511)) ∧
      (imageFails img .version = true ↔ at' 0 ≠ 1) ∧
      (imageFails img .stationRange = true ↔ 31 < at' 2 ∨ at' 2 < at' 1) ∧
      (imageFails img .rate = true ↔ 3 < at' 5) ∧
      (imageFails img .period = true ↔ at' 6 = 0) ∧
      (imageFails img .cadence = true ↔ 3 < at' 7 ∨ 2 ^ at' 7 ≤ at' 8) ∧
      (imageFails img .width = true ↔ at' 11 = 0 ∨ 8 < at' 11) ∧
      (imageFails img .pointMap = true ↔
        ∃ i < 8 * at' 11,
          ¬ (at' (32 + i) ≤ 0x01 ∨ (0x10 ≤ at' (32 + i) ∧ at' (32 + i) ≤ 0x1F) ∨
            (0x20 ≤ at' (32 + i) ∧ at' (32 + i) ≤ 0x2F ∧ at' (32 + i) < 0x20 + at' 12))) ∧
      (imageFails img .termShape = true ↔
        16 < at' 12 ∨ ∃ j < at' 12,
          2 < at' (96 + 21 * j) / 16 ∨ 2 < at' (96 + 21 * j) % 16 ∨
            at' (96 + 21 * j + 4) = 0 ∨ 8 < at' (96 + 21 * j + 4) ∨
            (at' (96 + 21 * j) / 16 = 2 ∧ (at' (96 + 21 * j + 1) = 0 ∨ at' (96 + 21 * j + 4) < at' (96 + 21 * j + 1)))) ∧
      (imageFails img .literalRange = true ↔
        ∃ j < at' 12, ∃ m < at' (96 + 21 * j + 4),
          let station := at' (96 + 21 * j + 5 + 2 * m)
          let point := at' (96 + 21 * j + 6 + 2 * m) % 128
          at' 2 < station ∨ 63 < point ∨ (station = at' 1 ∧ 8 * at' 11 ≤ point)) ∧
      (imageFails img .outputSource = true ↔
        ∃ i < 8, at' (432 + 3 * i) ≠ 255 ∧ at' 12 ≤ at' (432 + 3 * i)) ∧
      (imageFails img .grace = true ↔ at' 9 < 2 ∨ 8 < at' 9) ∧
      (imageFails img .listenRange = true ↔ at' 10 < 2 ∨ 16 < at' 10))

/-- The timer's expiry (R49, R51): it waits expired, a mark is due, and with the walk open an overrun is counted. The own mark (R50): it
begins where one is due in a timing state with the walk not open and nothing driven, bumping marks sent and driving the pin dominant;
its release and its failure free the line and leave timer and flag as they were. -/
def Obligations.DueMarkBeginsAndReleases : Prop :=
  (∀ (s : State) (b : Nat), s.trk.timer = .running b →
      exec .roundTimerExpiry s =
        .next { s with
          trk := { s.trk with timer := .expired, markDue := true }
          cnt := { s.cnt with
            overruns := match s.trk.walk with
              | .opened _ => min (s.cnt.overruns + 1) 65535
              | .idle => s.cnt.overruns
              | .closed => s.cnt.overruns } }) ∧
  (∀ s : State,
      (s.trk.markDue = true → s.ctl.station.timing = true → (∀ cursor, s.trk.walk ≠ .opened cursor) → s.line.mark = none →
        s.tx.attempt ≠ .driving →
        ∃ t, exec .markBegin s = .next t ∧
          t = { s with
            line := { s.line with mark := some 0 }
            cnt := { s.cnt with marksSent := min (s.cnt.marksSent + 1) 65535 } } ∧
          t.ltx = dominant) ∧
      exec .markRelease s = .next { s with line := { s.line with mark := none } } ∧
      exec .markFailed s = .next { s with line := { s.line with mark := none } })

/-- A mark recognised with no attempt taken over (R49, R53, R56). The timer restarts at round bit 9 where it runs and stays as it is
in LINE_FAULT with reason TX, the mark-due flag clears, a reception is dropped uncounted (one still RECEIVING too, log 13). With the
walk open it is also a cut: the walk closes under the recorded cursor, closes and cut closes are bumped, a missed turn where the cut
fell below the own number with a turn due (R54, R90; judged in the state at the cut, log 8), and the close work of every block runs
with the recorded cursor. -/
def Obligations.RecognisedMarkRestartsTimerAndCuts : Prop :=
  (∀ (s : State) (cfg : Configuration) (first : Bool), s.ldr.config = some cfg → s.ctl.station.receives = true →
      (∀ cursor, s.trk.walk ≠ .opened cursor) → s.tx.attempt ≠ .takenOver →
      exec (.markRecognised first) s =
        .next { s with
          trk := { s.trk with
            timer := if s.ctl.station = .lineFault .tx then s.trk.timer else .running 9
            markDue := false
            inMark := true }
          rx := { Receiver.fresh with prevRecessive := false } }) ∧
  (∀ (s : State) (cfg : Configuration) (first : Bool) (cursor : Cursor), s.ldr.config = some cfg →
      s.ctl.station.receives = true → s.trk.walk = .opened cursor → s.tx.attempt ≠ .takenOver →
      exec (.markRecognised first) s =
        .next (State.closeWork cfg (some cursor)
          { s with
            trk := { s.trk with
              timer := if s.ctl.station = .lineFault .tx then s.trk.timer else .running 9
              markDue := false
              inMark := true
              walk := .closed }
            rx := { Receiver.fresh with prevRecessive := false }
            cnt := { s.cnt with
              closes := min (s.cnt.closes + 1) 65535
              cutCloses := min (s.cnt.cutCloses + 1) 65535
              missedTurns :=
                if (s.ctl.station = .active ∧
                    (s.ctl.withdrawalPending = true ∨ s.trk.round.toNat % cfg.cadence.rounds = cfg.phase)) ∧
                  cursor.below cfg.own = true
                then min (s.cnt.missedTurns + 1) 65535 else s.cnt.missedTurns } }))

/-- The end of a mark opens the walk with the cursor before 0 and advances the round count, 65535 to 0 (R53, R57). That the
receiver has then taken a recessive level is log 14. -/
def Obligations.MarkEndOpensWalk : Prop :=
  ∀ s : State, s.trk.inMark = true → (∀ cursor, s.trk.walk ≠ .opened cursor) →
    ∃ t, exec .markEnd s = .next t ∧
      t = { s with
        trk := { s.trk with walk := .opened .beforeZero, inMark := false, round := t.trk.round }
        rx := { s.rx with prevRecessive := true } } ∧
      t.trk.round.toNat = (s.trk.round.toNat + 1) % 65536

/-- A boundary. In an open walk it advances the cursor by one up to H (R54); where that is not the own number, or is with no turn due
(R89), nothing else happens; without an open walk it moves nothing (R53). The boundary after slot H is a normal close (R55): the walk
closes, closes is bumped, the close work of every block runs with nothing exempt. That the bit of a boundary is recessive for the
receiver is log 14. -/
def Obligations.BoundaryAdvancesCursorOrCloses : Prop :=
  (∀ (s : State) (cfg : Configuration), s.ldr.config = some cfg → s.ctl.station.receives = true →
      (∀ (cursor : Cursor) (n : StationNo), s.trk.walk = .opened cursor →
        ((cursor = .beforeZero ∧ n.val = 0) ∨ ∃ m, cursor = .slot m ∧ n.val = m.val + 1) → n ≤ cfg.high →
        (n ≠ cfg.own ∨ ¬ s.hadTurn cfg ∨ s.tx.attempt ≠ .idle) →
        exec .slotBoundary s =
          .next { s with
            trk := { s.trk with walk := .opened (.slot n) }
            rx := { s.rx with prevRecessive := true } }) ∧
      ((∀ cursor, s.trk.walk ≠ .opened cursor) →
        exec .slotBoundary s = .next { s with rx := { s.rx with prevRecessive := true } })) ∧
  (∀ (s : State) (cfg : Configuration) (n : StationNo), s.ldr.config = some cfg → s.ctl.station.receives = true →
      s.trk.walk = .opened (.slot n) → cfg.high ≤ n →
      exec .slotBoundary s =
        .next (State.closeWork cfg none
          { s with
            trk := { s.trk with walk := .closed }
            rx := { s.rx with prevRecessive := true }
            cnt := { s.cnt with closes := min (s.cnt.closes + 1) 65535 } }))

/-- The boundary that opens the own slot of a due turn fills the own frame (R89, R91): LEAVE for a pending withdrawal, whose flag it
clears, DATA otherwise; the frame is read back with the configured fields, the flags and sequence as they stand, and the live own
points. Kind and buffer are held while the attempt is still IDLE (log 6). -/
def Obligations.OwnSlotFillsFrame : Prop :=
  ∀ (s : State) (cfg : Configuration) (cursor : Cursor), s.ldr.config = some cfg → cfg.inRange →
    s.trk.walk = .opened cursor →
    ((cursor = .beforeZero ∧ cfg.own.val = 0) ∨ ∃ m, cursor = .slot m ∧ cfg.own.val = m.val + 1) →
    s.hadTurn cfg → s.tx.attempt = .idle →
    ∃ t h points body, exec .slotBoundary s = .next t ∧
      t = { s with
        ctl := { s.ctl with withdrawalPending := false }
        trk := { s.trk with walk := .opened (.slot cfg.own) }
        rx := { s.rx with prevRecessive := true }
        tx := { s.tx with kind := t.tx.kind, buffer := some body, driven := 0 } } ∧
      t.tx.kind = some (if s.ctl.withdrawalPending then .leave else .data) ∧
      judge body = .valid (if s.ctl.withdrawalPending then .leave else .data) h points ∧
      h.station = cfg.own ∧ h.cadence = cfg.cadence ∧ h.width = cfg.width ∧ h.seq = s.tx.seq ∧ h.tag = cfg.tag ∧
      h.reserved = false ∧ h.flags.stale = s.eng.stale ∧
      (h.flags.pool = true ↔
        ∃ n, (s.member n).placement = .truncated ∨ (s.member n).placement = .unplaced) ∧
      points.length = (if s.ctl.withdrawalPending then 0 else cfg.width) ∧
      (s.ctl.withdrawalPending = false → ∀ own, s.img.own = some own →
        ∀ p < 8 * cfg.width, pointOf points p = own.getLsbD p)

/-! ### The close -/

/-- What a close touches, and the order of its stages (R7, R29, R30, R39, R41, R137, R138, R161): the image store's two steps, the
evaluation on the image they leave with the own points as they stood at the beginning, own points and held values from the new term
values, the station controller, the outputs from the state it leaves and the new held values, the copy; and the copy itself: the image,
terms and outputs as the close leaves them under its round count, published at once without a transaction, staged in an open one, where
replacing a staged copy counts as skipped. Acceptances that fall within the close reach filters and own points, and no term of it (R131;
that a tick brings them into it is log 18). -/
def Obligations.CloseStagesFollowOrder : Prop :=
  (∀ (s : State) (cfg : Configuration) (cut : Option Cursor), s.ldr.config = some cfg →
      let aged := (s.ageAll cfg cut).repackIfDue cfg
      let t := s.closeWork cfg cut
      t = { s with
        ctl := t.ctl, img := t.img, eng := t.eng, tx := t.tx, inp := t.inp, within := t.within, drv := t.drv, tap := t.tap
        cnt := { s.cnt with skippedCopies := t.cnt.skippedCopies } } ∧
      t.img = { aged.img with own := t.img.own } ∧
      (∀ j, t.drv.held = some (termValues t.eng.terms) ∧
        (termValues t.eng.terms).getLsbD j = (decide (j < 16) && (t.eng.terms.get (Fin.ofNat 16 j)).phase.value)) ∧
      t.drv.levels = outputLevels t.ctl.station s.ldr.config t.drv.held ∧
      (s.within = none → t.inp = s.inp ∧ t.within = none) ∧
      (∀ k inputs, s.within = some k → s.inp = some inputs →
        t.within = none ∧ ∃ after, t.inp = some after ∧ ∀ j : Fin 16,
          after.get j =
            if 2 ^ (cfg.settle.get (groupOf j)).val ≤ (inputs.get j).count then
              { accepted := !(inputs.get j).accepted, count := 0 }
            else inputs.get j) ∧
      (∀ own, s.img.own = some own → ∃ own', t.img.own = some own' ∧
        ∀ i : Fin 64, own'.getLsbD i.val =
          match cfg.points.get i with
          | .term j => if i.val < 8 * cfg.width then (t.eng.terms.get j).phase.value else own.getLsbD i.val
          | .input j => match s.within, s.inp with
            | some _, some inputs =>
              if i.val < 8 * cfg.width ∧ 2 ^ (cfg.settle.get (groupOf j)).val ≤ (inputs.get j).count then
                !(inputs.get j).accepted
              else own.getLsbD i.val
            | some _, none => own.getLsbD i.val
            | none, _ => own.getLsbD i.val
          | .constant _ => own.getLsbD i.val
          | .none => own.getLsbD i.val) ∧
      (t.eng.stale = true ↔ ∃ j : TermNo, j.val < cfg.terms.length ∧ (t.eng.terms.get j).byPolicy = true) ∧
      ∀ j : TermNo, match cfg.terms[j.val]? with
        | none => t.eng.terms.get j = s.eng.terms.get j
        | some term => t.eng.terms.get j =
            (s.eng.terms.get j).next term
              (rawValue term (term.literals.map (resolve cfg (s.img.own.getD 0) aged.img)))) ∧
  (∀ (s : State) (cfg : Configuration) (cut : Option Cursor), s.ldr.config = some cfg →
      let t := s.closeWork cfg cut
      let copy : Copy :=
        { stamp := s.trk.round, roster := t.img.roster, table := t.img.table, pool := t.img.pool, own := t.img.own,
          terms := t.eng.terms, stale := t.eng.stale, levels := t.drv.levels }
      (s.tap.trans = .idle →
        t.tap.published = copy ∧ t.tap.staged = s.tap.staged ∧ t.cnt = s.cnt) ∧
      (∀ o, s.tap.trans = .opened o →
        t.tap.published = s.tap.published ∧ t.tap.staged = some copy ∧
          (s.tap.staged = none → t.cnt = s.cnt) ∧
          (s.tap.staged ≠ none → t.cnt = { s.cnt with skippedCopies := min (s.cnt.skippedCopies + 1) 65535 })))

/-- Aging at a close without a repack (R3, R7, R8): every record that is not UNSEEN, not heard, below age 255 and not exempt grows one
round older and takes the presence its age gives; at a cut the records above the cursor are exempt, all of them before slot 0;
every heard flag clears, and table and pool stand. -/
def Obligations.CloseAgesUnheardRecords : Prop :=
  ∀ (s : State) (cfg : Configuration) (cut : Option Cursor), s.ldr.config = some cfg →
    (s.ageAll cfg cut).repackDue cfg = false →
    let t := s.closeWork cfg cut
    t.img.table = s.img.table ∧ t.img.pool = s.img.pool ∧ t.img.repackPending = s.img.repackPending ∧
    ∀ n : StationNo,
      let r := s.member n
      let exempt := cut = some .beforeZero ∨ ∃ c, cut = some (.slot c) ∧ c < n
      (r.presence ≠ .unseen ∧ r.heard = false ∧ r.age < 255 ∧ ¬ exempt →
        ∃ p reason, t.member n = { r with age := r.age + 1, presence := p, reason := reason, heard := false } ∧
          (∀ c, r.cadence = some c →
            (p = .present ↔ r.age + 1 < c.rounds) ∧
              (p = .late ↔ c.rounds ≤ r.age + 1 ∧ r.age + 1 < c.rounds * cfg.grace) ∧
              (p = .absent ↔ ¬ r.age + 1 < c.rounds ∧ c.rounds * cfg.grace ≤ r.age + 1)) ∧
          (p ≠ .absent → reason = none) ∧
          (p = .absent → r.presence ≠ .absent → r.reason = none → reason = some .silent) ∧
          (p = .absent → ∀ why, r.reason = some why → reason = some why)) ∧
      (¬ (r.presence ≠ .unseen ∧ r.heard = false ∧ r.age < 255 ∧ ¬ exempt) → t.member n = { r with heard := false })

/-- A repack is due exactly where the flag is set, or the table holds an entry while every peer is UNSEEN or ABSENT (R16), judged after
aging; it is executed in the same close, once, the flag clear after it (R15, R19). It forgets the absent, the own-number record among
them, and no other record loses a field but its placement (R19). -/
def Obligations.DueRepackForgetsAbsent : Prop :=
  (∀ (s : State) (cfg : Configuration) (cut : Option Cursor), s.ldr.config = some cfg →
      let aged := s.ageAll cfg cut
      let t := s.closeWork cfg cut
      (aged.repackDue cfg = true ↔
        s.img.repackPending = true ∨
          (s.img.table ≠ [] ∧ ∀ n, n ≠ cfg.own →
            (aged.member n).presence = .unseen ∨ (aged.member n).presence = .absent)) ∧
      (aged.repackDue cfg = true →
        t.img.table = (aged.repack cfg).img.table ∧ t.img.pool = (aged.repack cfg).img.pool ∧
          (∀ n, t.member n = (aged.repack cfg).member n) ∧ t.img.repackPending = false)) ∧
  (∀ (s : State) (cfg : Configuration) (n : StationNo), s.ldr.config = some cfg →
      let t := s.repack cfg
      t.img.repackPending = false ∧
      ((s.member n).presence = .absent →
        t.member n =
          { presence := .unseen, reason := none, age := 0, cadence := none, width := none, lastSeq := none, tag := none,
            flags := none, heard := false, missed := 0, repeats := 0, tagChanges := 0, placement := .none }) ∧
      ((s.member n).presence ≠ .absent → t.member n = { s.member n with placement := (t.member n).placement }))

/-- The new table of a repack (R11, R17): contiguous from point 0 within the pool, its stations ascending, none but PRESENT or LATE
peers; a kept peer is FULL, TRUNCATED or UNPLACED as its entry holds all, some or none of its recorded width. -/
def Obligations.RepackBuildsTable : Prop :=
  ∀ (s : State) (cfg : Configuration), s.ldr.config = some cfg → RosterLaw s → FieldLaw s →
    let t := s.repack cfg
    contiguousFrom 0 t.img.table ∧ freePointer t.img.table ≤ 512 ∧
    (t.img.table.map (·.station)).Pairwise (· < ·) ∧
    (∀ e ∈ t.img.table, e.station ≠ cfg.own ∧ (s.member e.station).onLine = true) ∧
    ∀ n, n ≠ cfg.own → (s.member n).onLine = true →
      match entryOf t.img.table n with
      | none => (t.member n).placement = .unplaced ∧ freePointer t.img.table = 512
      | some e =>
        (e.length = 8 * (s.member n).width.getD 0 ∧ (t.member n).placement = .full) ∨
          (e.length < 8 * (s.member n).width.getD 0 ∧ (t.member n).placement = .truncated ∧
            freePointer t.img.table = 512)

/-- The move of a repack (R18). -/
def Obligations.RepackMovesPoints : Prop :=
  ∀ (s : State) (cfg : Configuration), s.ldr.config = some cfg → AllocationLaw s →
    let t := s.repack cfg
    (∀ e ∈ t.img.table, ∀ p < e.length,
      (∀ o ∈ s.img.table, o.station = e.station → p < o.length →
        t.img.pool.levels.getLsbD (e.offset + p) = s.img.pool.levels.getLsbD (o.offset + p) ∧
          t.img.pool.supplied.getLsbD (e.offset + p) = s.img.pool.supplied.getLsbD (o.offset + p)) ∧
      ((∀ o ∈ s.img.table, o.station = e.station → o.length ≤ p) →
        t.img.pool.levels.getLsbD (e.offset + p) = false ∧ t.img.pool.supplied.getLsbD (e.offset + p) = false)) ∧
    ∀ i < 512, (∀ e ∈ t.img.table, i < e.offset ∨ e.offset + e.length ≤ i) →
      t.img.pool.levels.getLsbD i = false ∧ t.img.pool.supplied.getLsbD i = false

/-- The station controller's part of a close (R111, R112, R114): in LISTEN with the own record gone the count grows and at L the
station becomes ACTIVE, otherwise it stands; in DUPLICATE with the record gone it returns to LISTEN; other states take no part. -/
def Obligations.CloseCountsListenRounds : Prop :=
  ∀ (s : State) (cfg : Configuration) (cut : Option Cursor), s.ldr.config = some cfg →
    let t := s.closeWork cfg cut
    let gone := (t.member cfg.own).presence = .absent ∨ (t.member cfg.own).presence = .unseen
    (∀ count, s.ctl.station = .listen count →
      (gone → count + 1 < cfg.listen → t.ctl = { s.ctl with station := .listen (count + 1) }) ∧
      (gone → cfg.listen ≤ count + 1 → t.ctl = { s.ctl with station := .active }) ∧
      (¬ gone → t.ctl = s.ctl)) ∧
    (s.ctl.station = .duplicate →
      (gone → t.ctl = { s.ctl with station := .listen 0 } ∧ t.tx.losses = 0) ∧ (¬ gone → t.ctl = s.ctl)) ∧
    ((∀ count, s.ctl.station ≠ .listen count) → s.ctl.station ≠ .duplicate → t.ctl = s.ctl ∧ t.tx = s.tx)

/-- The events of one close stand in the queue in order (R9, R17, R19, R38, R111): aging by ascending station; for a repack one
POOL_SHORT for each kept peer placed TRUNCATED or UNPLACED, by ascending station and with the points placed, then REPACKED; terms by
ascending number; last the station controller's STATE, where the close changes the station state and only there. The INPUT events of
acceptances that fall within the close stand among them, so many behind the first as the tick says, and nothing else does (R130, R131;
that no other block's happening falls within a close, and that the tick brings the place, is log 18, the model's choice). -/
def Obligations.CloseEventsStandInOrder : Prop :=
  ∀ (s : State) (cfg : Configuration) (cut : Option Cursor), s.ldr.config = some cfg →
    let aged := s.ageAll cfg cut
    let t := s.closeWork cfg cut
    ∃ aging shorts repacked terms state inputs posted : List (EventKind × Nat × Nat),
      t.tap.queue = (s.postAll posted).tap.queue ∧
      t.tap.lostEvents = (s.postAll posted).tap.lostEvents ∧
      t.tap.lossMark = (s.postAll posted).tap.lossMark ∧
      (s.within = none → posted = aging ++ shorts ++ repacked ++ terms ++ state) ∧
      (∀ k, s.within = some k →
        posted = (aging ++ shorts ++ repacked ++ terms ++ state).take k ++ inputs ++
          (aging ++ shorts ++ repacked ++ terms ++ state).drop k) ∧
      (aging.map (·.2.1)).Pairwise (· < ·) ∧
      (∀ kind subject detail, (kind, subject, detail) ∈ aging ↔
        ∃ n : StationNo, n ≠ cfg.own ∧ subject = n.val ∧ detail = (aged.member n).age ∧
          ((kind = .memberLate ∧ (s.member n).presence = .present ∧ (aged.member n).presence = .late) ∨
            (kind = .memberAbsent ∧ (s.member n).presence = .late ∧ (aged.member n).presence = .absent))) ∧
      (aged.repackDue cfg = false → shorts = [] ∧ repacked = []) ∧
      (aged.repackDue cfg = true →
        repacked = [(.repacked, t.img.table.length, freePointer t.img.table)] ∧
        (shorts.map (·.2.1)).Pairwise (· < ·) ∧
        ∀ kind subject detail, (kind, subject, detail) ∈ shorts ↔
          kind = .poolShort ∧ ∃ n : StationNo, n ≠ cfg.own ∧ subject = n.val ∧ (aged.member n).onLine = true ∧
            (((t.member n).placement = .truncated ∧ ∃ e, entryOf t.img.table n = some e ∧ detail = e.length) ∨
              ((t.member n).placement = .unplaced ∧ detail = 0))) ∧
      (terms.map (·.2.1)).Pairwise (· < ·) ∧
      (∀ kind subject detail, (kind, subject, detail) ∈ terms ↔
        ∃ j : TermNo, subject = j.val ∧ detail = (t.eng.terms.get j).byPolicy.toNat ∧
          ((kind = .termOn ∧ (s.eng.terms.get j).phase.value = false ∧ (t.eng.terms.get j).phase.value = true) ∨
            (kind = .termOff ∧ (s.eng.terms.get j).phase.value = true ∧
              (t.eng.terms.get j).phase.value = false))) ∧
      (t.ctl.station = .active ∧ s.ctl.station ≠ .active → state = [(.state, 3, 0x20)]) ∧
      (t.ctl.station = .listen 0 ∧ s.ctl.station = .duplicate → state = [(.state, 2, 0x12)]) ∧
      (t.ctl.station.code = s.ctl.station.code → state = []) ∧
      (state = [] ∨ state = [(.state, 3, 0x20)] ∨ state = [(.state, 2, 0x12)]) ∧
      (inputs.map (·.2.1)).Pairwise (· < ·) ∧
      ∀ kind subject detail, (kind, subject, detail) ∈ inputs ↔
        kind = .input ∧ ∃ filters, s.inp = some filters ∧ ∃ j : Fin 16, subject = j.val ∧
          detail = (!(filters.get j).accepted).toNat ∧
          2 ^ (cfg.settle.get (groupOf j)).val ≤ (filters.get j).count ∧ cfg.enables.getLsbD (groupOf j).val = true

/-! ### The terms -/

/-- A literal on the own station reads the snapshot under its sense (R22); one on another station reads its entry's supplied point
while the record is PRESENT or LATE, and is UNKNOWN otherwise (R23). -/
def Obligations.LiteralsResolve : Prop :=
  ∀ (cfg : Configuration) (snapshot : BitVec 64) (img : Image) (l : Literal),
    let level (b : Bool) : Tri := if b = (decide (l.sense = .trueWhenHigh)) then .yes else .no
    let r := img.roster.get l.station
    (l.station = cfg.own → resolve cfg snapshot img l = level (snapshot.getLsbD l.point.val)) ∧
    (l.station ≠ cfg.own → r.presence = .unseen ∨ r.presence = .absent → resolve cfg snapshot img l = .unknown) ∧
    (l.station ≠ cfg.own → entryOf img.table l.station = none → resolve cfg snapshot img l = .unknown) ∧
    (l.station ≠ cfg.own → ∀ e, entryOf img.table l.station = some e →
      (e.length ≤ l.point.val ∨ img.pool.supplied.getLsbD (e.offset + l.point.val) = false →
        resolve cfg snapshot img l = .unknown) ∧
      (r.presence = .present ∨ r.presence = .late → l.point.val < e.length →
        img.pool.supplied.getLsbD (e.offset + l.point.val) = true →
        resolve cfg snapshot img l = level (img.pool.levels.getLsbD (e.offset + l.point.val))))

/-- The raw value by kind and tallies (R32): the table's three cases for each kind, ALL as COUNT with k = n, ANY as COUNT with k = 1,
and never UNKNOWN where every literal names the own station. -/
def Obligations.RawValueFollowsTallies : Prop :=
  ∀ (t : Term) (answers : List Tri),
    let n := answers.length
    let T := answers.count .yes
    let F := answers.count .no
    let U := answers.count .unknown
    (t.kind = .all →
      (rawValue t answers = .yes ↔ T = n) ∧ (rawValue t answers = .no ↔ 1 ≤ F) ∧
        (rawValue t answers = .unknown ↔ F = 0 ∧ 1 ≤ U) ∧
        rawValue t answers = rawValue { t with kind := .count, k := n } answers) ∧
    (t.kind = .any →
      (rawValue t answers = .yes ↔ 1 ≤ T) ∧ (rawValue t answers = .no ↔ F = n) ∧
        (rawValue t answers = .unknown ↔ T = 0 ∧ 1 ≤ U) ∧
        rawValue t answers = rawValue { t with kind := .count, k := 1 } answers) ∧
    (t.kind = .count →
      (rawValue t answers = .yes ↔ t.k ≤ T) ∧ (rawValue t answers = .no ↔ T + U < t.k) ∧
        (rawValue t answers = .unknown ↔ T < t.k ∧ t.k ≤ T + U)) ∧
    ∀ (cfg : Configuration) (snapshot : BitVec 64) (img : Image), (∀ l ∈ t.literals, l.station = cfg.own) →
      rawValue t (t.literals.map (resolve cfg snapshot img)) ≠ .unknown

/-- The unknown policy (R33, R34): what raw value and policy make of a term state. -/
def Obligations.PolicyDecidesUnknown : Prop :=
  ∀ (t : Term) (raw : Tri) (st : TermState),
    (st.next t raw).lastRaw = raw ∧ ((st.next t raw).byPolicy = true ↔ raw = .unknown) ∧
    (raw = .unknown → t.policy = .forceOn → (st.next t raw).phase = (st.next t .yes).phase) ∧
    (raw = .unknown → t.policy = .forceOff → (st.next t raw).phase = (st.next t .no).phase) ∧
    (raw = .unknown → t.policy = .hold →
      (st.next t raw).phase = st.phase ∧ ∀ j, termEvent j st (st.next t raw) = [])

/-- An effective TRUE (R35): the table, its events, and the (h + 1)th consecutive TRUE close that turns an OFF term ON. -/
def Obligations.TrueClosesTurnTermOn : Prop :=
  ∀ (t : Term) (st : TermState) (j : TermNo),
    let u := st.next t .yes
    let on := termEvent j st u = [(.termOn, j.val, 0)]
    let none' := termEvent j st u = []
    (st.phase = .off → t.hold = 0 → u.phase = .on ∧ on) ∧
    (st.phase = .off → 1 ≤ t.hold → u.phase = .arming 1 ∧ none') ∧
    (∀ c, st.phase = .arming c → t.hold < c + 1 → u.phase = .on ∧ on) ∧
    (∀ c, st.phase = .arming c → c + 1 ≤ t.hold → u.phase = .arming (c + 1) ∧ none') ∧
    (st.phase = .on → u.phase = .on ∧ none') ∧
    (∀ c, st.phase = .disarming c → u.phase = .on ∧ none') ∧
    (st.phase = .off →
      (∀ k, 1 ≤ k → k ≤ t.hold → ((fun x : TermState => x.next t .yes)^[k] st).phase = .arming k) ∧
        ((fun x : TermState => x.next t .yes)^[t.hold + 1] st).phase = .on)

/-- An effective FALSE (R36): the mirror, with release; and unknown closes under HOLD between them do not break the run. -/
def Obligations.FalseClosesTurnTermOff : Prop :=
  ∀ (t : Term) (st : TermState) (j : TermNo),
    let u := st.next t .no
    let off := termEvent j st u = [(.termOff, j.val, 0)]
    let none' := termEvent j st u = []
    (st.phase = .on → t.release = 0 → u.phase = .off ∧ off) ∧
    (st.phase = .on → 1 ≤ t.release → u.phase = .disarming 1 ∧ none') ∧
    (∀ c, st.phase = .disarming c → t.release < c + 1 → u.phase = .off ∧ off) ∧
    (∀ c, st.phase = .disarming c → c + 1 ≤ t.release → u.phase = .disarming (c + 1) ∧ none') ∧
    (st.phase = .off → u.phase = .off ∧ none') ∧
    (∀ c, st.phase = .arming c → u.phase = .off ∧ none') ∧
    (st.phase = .on → ∀ raws : List Tri, (∀ r ∈ raws, r = .no ∨ (r = .unknown ∧ t.policy = .hold)) →
      ((raws.foldl (fun x r => x.next t r) st).phase = .off ↔ t.release + 1 ≤ raws.count .no))

/-- The laws of the count and of the value (R37). -/
def Obligations.CountStaysWithinHoldAndRelease : Prop :=
  ∀ (t : Term) (raw : Tri) (st : TermState) (j : TermNo), st.phase.countLaw t →
    let u := st.next t raw
    u.phase.countLaw t ∧
    (t.hold = 0 → ∀ c, u.phase ≠ .arming c) ∧ (t.release = 0 → ∀ c, u.phase ≠ .disarming c) ∧
    (u.phase.value ≠ st.phase.value ↔
      (u.phase = .on ∧ (st.phase = .off ∨ ∃ c, st.phase = .arming c)) ∨
        (u.phase = .off ∧ (st.phase = .on ∨ ∃ c, st.phase = .disarming c))) ∧
    (termEvent j st u = [] ↔ u.phase.value = st.phase.value)

/-! ### The own slot -/

/-- The start bit (R92, R93): on a recessive line it is driven and the sequence advances, 63 to 0; on a line already dominant the slot
is taken, a collision is counted and the sequence stands; the pin shows it (R172); both begin a reception under the walk as it is. A
collision (R79, R94): at a bit driven recessive and read dominant the sender stops driving, counts it and enters TAKEN_OVER; the
receiver keeps the bits so far as a foreign reception. That kind and buffer wait in an attempt still IDLE is log 6, that a command
carries its bit log 19. -/
def Obligations.StartBitDrivesAndCollisionReleases : Prop :=
  (∀ (s : State) (taken : Bool), s.ctl.station = .active → s.tx.attempt = .idle → s.tx.kind ≠ none →
      ∃ t, exec (.startBit taken) s = .next t ∧
        t = { s with rx := t.rx, tx := t.tx, cnt := t.cnt } ∧
        t.rx = { s.rx with
          state := .receiving, bits := [], level := dominant, runLength := 1, startWalk := s.trk.walk,
          ownMark := !taken, prevRecessive := false } ∧
        (taken = false →
          t.tx = { s.tx with attempt := .driving, driven := 1, seq := t.tx.seq } ∧ t.ltx = dominant ∧
            t.tx.seq.toNat = (s.tx.seq.toNat + 1) % 64 ∧ t.cnt = s.cnt) ∧
        (taken = true →
          t.tx = { s.tx with attempt := .takenOver } ∧ (s.line.mark = none → t.ltx = recessive) ∧
            t.cnt = { s.cnt with collisions := min (s.cnt.collisions + 1) 65535 })) ∧
  (∀ (s : State) (bit : Nat), s.tx.attempt = .driving → s.tx.driven ≤ bit + 1 → s.tx.line[bit]? = some recessive →
      s.line.mark = none →
      ∃ t, exec (.collision bit) s = .next t ∧
        t = { s with
          rx := { s.rx.hear s.rx.startWalk ((s.tx.line.take bit).drop s.tx.driven) with ownMark := false }
          tx := { s.tx with attempt := .takenOver }
          cnt := { s.cnt with collisions := min (s.cnt.collisions + 1) 65535 } } ∧
        t.ltx = recessive)

/-- A transceiver fault (R94, R97): at a bit driven dominant and read recessive the attempt is lost at that bit, the reception going on
as a foreign one (a fault at the start bit itself leaves none, log 19); below the limit a DATA attempt changes no state, a LEAVE enters
WITHDRAWN with LEAVE_LOST (R98, R118); at the limit the loss is the one FourthLossEntersLineFault spells out. -/
def Obligations.TransceiverFaultLosesAttempt : Prop :=
  ∀ (s : State) (bit : Nat) (kind : FrameKind), s.ctl.station = .active → s.tx.attempt = .driving →
    s.tx.driven ≤ bit + 1 → s.tx.line[bit]? = some dominant → s.tx.kind = some kind →
    let released : Receiver :=
      if bit = 0 then { Receiver.fresh with prevRecessive := true }
      else { s.rx.hear s.rx.startWalk ((s.tx.line.take bit).drop s.tx.driven) with ownMark := false }
    ∃ t, exec (.transceiverFault bit) s = .next t ∧
      (s.tx.losses + 1 < 4 →
        t = { s with
          ctl := t.ctl
          rx := released
          tx := { s.tx with attempt := .idle, kind := none, buffer := none, driven := 0, losses := s.tx.losses + 1 }
          cnt := { s.cnt with attemptsLost := min (s.cnt.attemptsLost + 1) 65535 }
          drv := { s.drv with levels := t.drv.levels }
          tap := t.tap } ∧
        (kind = .data → t.ctl = s.ctl ∧ t.drv = s.drv ∧ t.tap = s.tap) ∧
        (kind = .leave →
          t.ctl = { s.ctl with station := .withdrawn, withdrawalPending := false } ∧ PostsState 4 0x31 s t)) ∧
      (s.tx.losses = 3 → t = State.attemptLost { s with rx := released })

/-- A sent attempt (R79, R96, R98, R118): frames sent is bumped, the loss count is 0, the reception is discarded; a LEAVE enters
WITHDRAWN with LEAVE_SENT. -/
def Obligations.SentAttemptIsCounted : Prop :=
  ∀ (s : State) (kind : FrameKind), s.tx.attempt = .driving → s.tx.kind = some kind →
    ∃ t, exec .attemptSent s = .next t ∧
      t = { s with
        ctl := t.ctl
        rx := { Receiver.fresh with prevRecessive := false }
        tx := { s.tx with attempt := .idle, kind := none, buffer := none, driven := 0, losses := 0 }
        cnt := { s.cnt with framesSent := min (s.cnt.framesSent + 1) 65535 }
        drv := { s.drv with levels := t.drv.levels }
        tap := t.tap } ∧
      (kind = .data → t.ctl = s.ctl ∧ t.drv = s.drv ∧ t.tap = s.tap) ∧
      (kind = .leave →
        t.ctl = { s.ctl with station := .withdrawn, withdrawalPending := false } ∧ PostsState 4 0x30 s t)

/-- The fourth consecutive loss (R97, R119): LINE_FAULT with reason TX, whatever the kind; fault and last stop reason TX, the transmit
fault held, the withdrawal abandoned, timer stopped and flag clear, outputs at their safe levels. -/
def Obligations.FourthLossEntersLineFault : Prop :=
  ∀ (s : State) (cfg : Configuration), s.ldr.config = some cfg → s.tx.losses = 3 →
    let t := s.attemptLost
    t = { s with
      ctl := { s.ctl with
        station := .lineFault .tx, withdrawalPending := false, txHeld := true, lastStop := some (.line .tx) }
      trk := { s.trk with timer := .stopped, markDue := false }
      line := { s.line with mark := none }
      tx := { s.tx with attempt := .idle, kind := none, buffer := none, driven := 0, losses := 4 }
      cnt := { s.cnt with attemptsLost := min (s.cnt.attemptsLost + 1) 65535 }
      drv := { s.drv with levels := t.drv.levels }
      tap := t.tap } ∧
    SafeOutputs cfg t.drv.levels ∧ PostsState 6 0x51 s t

/-- An attempt taken over is settled where its foreign reception ends (R95): a valid frame with the own number takes it over, every
other completed frame loses it, before or after the frame is handed on (log 5); a bad frame, counted by its kind under the walk at the
start bit (R78), loses it; and so does a mark that drops the reception (R75), before or after the cut of the walk, whose cursor has then
reached the own number (R56, R97). -/
def Obligations.TakenOverAttemptIsSettled : Prop :=
  ∀ (s : State) (cfg : Configuration), s.ldr.config = some cfg → s.ctl.station.receives = true → s.tx.attempt = .takenOver →
    (∀ (levels : List Level) (body : List Byte), s.rx.ownMark = false →
      s.rx.takeAll s.trk.walk levels = some (.completed body) →
      let heard : State := { s with rx := { Receiver.fresh with prevRecessive := false } }
      let idle : Sender := { s.tx with attempt := .idle, kind := none, buffer := none, driven := 0 }
      ((∃ kind h points, judge body = .valid kind h points ∧ h.station = cfg.own) →
        (∃ t, exec (.frameReceived levels false) s = .next t ∧ t.tx = idle ∧
          t = { heard.countAndSort cfg s.receptionWalk (judge body) with tx := t.tx }) ∧
        exec (.frameReceived levels true) s =
          .next (State.countAndSort cfg s.receptionWalk (judge body) { heard with tx := idle })) ∧
      ((∀ kind h points, judge body = .valid kind h points → h.station ≠ cfg.own) →
        exec (.frameReceived levels false) s =
            .next (heard.countAndSort cfg s.receptionWalk (judge body)).attemptLost ∧
          exec (.frameReceived levels true) s =
            .next (heard.attemptLost.countAndSort cfg s.receptionWalk (judge body)))) ∧
    (∀ (levels : List Level) (kind : BadKind), s.rx.takeAll s.trk.walk levels = some (.bad kind) →
      exec (.badFrame levels) s =
        .next (State.attemptLost
          { s with
            rx := { Receiver.fresh with prevRecessive := true }
            cnt := if s.receptionWalk = .idle then s.cnt else s.cnt.bumpBad kind })) ∧
    (
      let marked : State :=
        { s with
          trk := { s.trk with
            timer := if s.ctl.station = .lineFault .tx then s.trk.timer else .running 9
            markDue := false
            inMark := true }
          rx := { Receiver.fresh with prevRecessive := false } }
      ((∀ cursor, s.trk.walk ≠ .opened cursor) → ∀ first,
        exec (.markRecognised first) s = .next marked.attemptLost) ∧
      ∀ cursor, s.trk.walk = .opened cursor → s.ctl.station = .active → cursor.below cfg.own = false →
        let cut : State → State := fun u =>
          State.closeWork cfg (some cursor)
            { u with
              trk := { u.trk with walk := .closed }
              cnt := { u.cnt with
                closes := min (u.cnt.closes + 1) 65535, cutCloses := min (u.cnt.cutCloses + 1) 65535 } }
        exec (.markRecognised true) s = .next (cut marked.attemptLost) ∧
          exec (.markRecognised false) s = .next (cut marked).attemptLost)

/-- A loss under the mark that cuts the walk (R97): both orders leave the same image, terms, counters, sender, controller and output
levels. -/
def Obligations.LossAndCutReachSameState : Prop :=
  ∀ (s : State) (cfg : Configuration) (cursor : Cursor), s.ldr.config = some cfg → s.ctl.station = .active →
    s.trk.walk = .opened cursor → cursor.below cfg.own = false → s.tx.attempt = .takenOver →
    ∃ t u, exec (.markRecognised true) s = .next t ∧ exec (.markRecognised false) s = .next u ∧
      t.img = u.img ∧ t.eng = u.eng ∧ t.cnt = u.cnt ∧ t.drv = u.drv ∧ t.tx = u.tx ∧ t.ctl = u.ctl ∧ t.trk = u.trk

/-! ### Frames on the line -/

/-- The header's layout, byte by byte, is read back field by field (R168). A completed frame's verdict (R77): the check first, then kind
and reserved flag; a frame as it was built is judged by its own header. The check (R71): a frame with any one of its bits changed is
judged CHECK, and the check of the nine bytes 31h to 39h is 29B1h. -/
def Obligations.FrameFieldsAndVerdictReadBack : Prop :=
  (∀ (h : Header) (rest : List Byte),
      Header.ofBytes (h.bytes ++ rest) = h ∧ h.bytes.length = 4 ∧
        (h.bytes.getD 0 0).toNat = 8 * h.station.val + h.kind.toNat ∧
        (h.bytes.getD 1 0).toNat =
          64 * h.cadence.code + 8 * h.widthCode.toNat + 4 * h.flags.stale.toNat + 2 * h.flags.pool.toNat +
            h.reserved.toNat ∧
        256 * (h.bytes.getD 2 0).toNat + (h.bytes.getD 3 0).toNat = 1024 * h.seq.toNat + h.tag.toNat) ∧
  ((∀ body : List Byte, (judge body = .check ↔ checkMatches body = false)) ∧
    ∀ (h : Header) (points : List Byte),
      (h.reserved = false → h.kind = 1#3 → judge (frameBody h points) = .valid .data h points) ∧
      (h.reserved = false → h.kind = 2#3 → judge (frameBody h points) = .valid .leave h points) ∧
      (h.reserved = true ∨ (h.kind ≠ 1#3 ∧ h.kind ≠ 2#3) → judge (frameBody h points) = .header)) ∧
  ((∀ (h : Header) (points : List Byte) (i : Nat) (k : Nat) (b : Byte), k < 8 → (frameBody h points)[i]? = some b →
      judge ((frameBody h points).set i (b ^^^ (1#8 <<< k))) = .check) ∧
    crc [0x31, 0x32, 0x33, 0x34, 0x35, 0x36, 0x37, 0x38, 0x39] = 0x29B1)

/-- How a reception ends before its check (R74, R75): a fifth equal recessive bit is SHORT, a dominant run of exactly 5 STUFF, of 6 to
9 DISTURBED, a 10th dominant bit drops it, and a recessive bit at the end-bit position is FRAMING (R73, R76). A bad frame (R76–R78):
its kind's counter is bumped unless its walk was IDLE, the receiver waits again, and nothing else moves. Frames that are discarded
(R58, R60, R77–R79): with the own mark, begun in an IDLE walk, failing check or header, after the close, beyond the walk; each bumps
the counters its rule names and moves nothing else. -/
def Obligations.BadAndDiscardedFramesOnlyCount : Prop :=
  (∀ (r : Receiver) (walk : Walk), r.state = .receiving → r.runLength = 4 →
      (r.level = recessive → r.take walk recessive = .bad .short) ∧
      (r.level = dominant → ∀ more : Nat,
        (more = 1 → r.takeAll walk (List.replicate more dominant ++ [recessive]) = some (.bad .stuff)) ∧
        (2 ≤ more → more ≤ 5 →
          r.takeAll walk (List.replicate more dominant ++ [recessive]) = some (.bad .disturbed)) ∧
        (more = 6 → r.takeAll walk (List.replicate more dominant) = some .dropped))) ∧
  (∀ (r : Receiver) (walk : Walk) (n : Nat), r.state = .receiving → r.runLength < 4 → expectedBits r.bits = some n →
      n ≤ r.bits.length → r.take walk recessive = .bad .framing) ∧
  (∀ (s : State) (cfg : Configuration) (levels : List Level) (kind : BadKind), s.ldr.config = some cfg →
      s.ctl.station.receives = true → s.rx.takeAll s.trk.walk levels = some (.bad kind) → s.tx.attempt ≠ .takenOver →
      ∃ t, exec (.badFrame levels) s = .next t ∧
        t = { s with rx := { Receiver.fresh with prevRecessive := true }, cnt := t.cnt } ∧
        (s.receptionWalk = .idle → t.cnt = s.cnt) ∧
        (s.receptionWalk ≠ .idle →
          (kind = .stuff → t.cnt = { s.cnt with badStuff := min (s.cnt.badStuff + 1) 65535 }) ∧
          (kind = .short → t.cnt = { s.cnt with badShort := min (s.cnt.badShort + 1) 65535 }) ∧
          (kind = .disturbed → t.cnt = { s.cnt with badDisturbed := min (s.cnt.badDisturbed + 1) 65535 }) ∧
          (kind = .framing → t.cnt = { s.cnt with badFraming := min (s.cnt.badFraming + 1) 65535 }))) ∧
  (∀ (s : State) (cfg : Configuration) (levels : List Level) (first : Bool) (walk : Walk) (body : List Byte),
      let after (c : Counters) : State := { s with rx := { Receiver.fresh with prevRecessive := false }, cnt := c }
      (s.ldr.config = some cfg → s.ctl.station.receives = true →
        s.rx.takeAll s.trk.walk levels = some (.completed body) → s.rx.ownMark = true →
        exec (.frameReceived levels first) s = .next (after s.cnt)) ∧
      (s.hears cfg levels walk body →
        (walk = .idle → exec (.frameReceived levels first) s = .next (after s.cnt)) ∧
        (walk ≠ .idle →
          (judge body = .check →
            exec (.frameReceived levels first) s =
              .next (after { s.cnt with badCheck := min (s.cnt.badCheck + 1) 65535 })) ∧
          (judge body = .header →
            exec (.frameReceived levels first) s =
              .next (after { s.cnt with badHeader := min (s.cnt.badHeader + 1) 65535 })) ∧
          ∀ kind h points, judge body = .valid kind h points →
            (walk = .closed →
              exec (.frameReceived levels first) s =
                .next (after { s.cnt with
                  good := min (s.cnt.good + 1) 65535, afterClose := min (s.cnt.afterClose + 1) 65535 })) ∧
            (walk ≠ .closed → cfg.high < h.station →
              exec (.frameReceived levels first) s =
                .next (after { s.cnt with
                  good := min (s.cnt.good + 1) 65535, beyondWalk := min (s.cnt.beyondWalk + 1) 65535 })))))

/-- A whole frame is received as it was sent (R67, R68, R72, R73, R76): from WAITING on a recessive line, the receiver takes the start
bit, removes what stuffing put in, and completes at the end bit with the body that went out. And no run of a frame on the line, start
and end bit included, reaches five equal bits (R68). -/
def Obligations.SentFrameIsReceivedWhole : Prop :=
  (∀ (r : Receiver) (walk : Walk) (h : Header) (points : List Byte),
      r.state = .waiting → r.prevRecessive = true → points.length = pointBytes h.kind h.widthCode →
      r.takeAll walk (lineBits (frameBody h points)) = some (.completed (frameBody h points))) ∧
  (∀ (body : List Byte) (before after : List Level) (level : Level),
      lineBits body ≠ before ++ List.replicate 5 level ++ after)

/-- How the sorting moves cursor and counters for a frame handed on (R54, R59, R61, R62, R78, R90): in slot nothing, a forward slip
raises the cursor and counts, with a missed turn where it reaches or passes the own number (judged before the sighting of the same
frame, log 8), out of slot counts only. -/
def Obligations.SortingMovesCursorOnlyBySlip : Prop :=
  ∀ (s : State) (cfg : Configuration) (levels : List Level) (first : Bool) (cursor : Cursor) (body : List Byte)
    (kind : FrameKind) (h : Header) (points : List Byte),
    s.hears cfg levels (.opened cursor) body → judge body = .valid kind h points → h.station ≤ cfg.high →
    ∃ t, exec (.frameReceived levels first) s = .next t ∧
      t.trk = { s.trk with walk := if cursor.below h.station then .opened (.slot h.station) else .opened cursor } ∧
      t.rx = { Receiver.fresh with prevRecessive := false } ∧ t.cnt.good = min (s.cnt.good + 1) 65535 ∧
      t.cnt.slips = (if cursor.below h.station then min (s.cnt.slips + 1) 65535 else s.cnt.slips) ∧
      t.cnt.outOfSlot =
        (if cursor.below h.station ∨ cursor = .slot h.station then s.cnt.outOfSlot
        else min (s.cnt.outOfSlot + 1) 65535) ∧
      (cursor.below cfg.own = true ∧ cfg.own ≤ h.station ∧ s.hadTurn cfg →
        t.cnt.missedTurns = min (s.cnt.missedTurns + 1) 65535) ∧
      (¬ (cursor.below cfg.own = true ∧ cfg.own ≤ h.station ∧ s.hadTurn cfg) →
        t.cnt.missedTurns = s.cnt.missedTurns)

/-- The first DATA frame of a peer in a round refreshes its record (R3, R4, R82–R84): age 0, PRESENT, heard, the frame's fields, the
missed count raised by the gap, the tag change counted; every other record stands. Table, pool, placement and events are those that
RefreshWritesPointsAndPosts speaks of. -/
def Obligations.PeerDataRefreshesRecord : Prop :=
  ∀ (s : State) (cfg : Configuration) (levels : List Level) (first : Bool) (cursor : Cursor) (body : List Byte)
    (h : Header) (points : List Byte),
    s.hears cfg levels (.opened cursor) body → judge body = .valid .data h points → h.station ≤ cfg.high →
    h.station ≠ cfg.own → (s.member h.station).heard = false →
    ((s.member h.station).onLine = true → (s.member h.station).lastSeq ≠ some h.seq) →
    let r := s.member h.station
    ∃ t, exec (.frameReceived levels first) s = .next t ∧
      t = { s with rx := t.rx, trk := t.trk, cnt := t.cnt, tap := t.tap,
                   img := { s.img with roster := t.img.roster, table := t.img.table, pool := t.img.pool } } ∧
      t.img = (s.refreshRecord h points).img ∧ t.tap = (s.refreshRecord h points).tap ∧
      t.cnt.repeats = s.cnt.repeats ∧
      (∀ m, m ≠ h.station → t.member m = s.member m) ∧
      ∃ missed changes placement,
        t.member h.station =
          { presence := .present, reason := none, age := 0, cadence := some h.cadence, width := some h.width,
            lastSeq := some h.seq, tag := some h.tag, flags := some h.flags, heard := true, missed := missed,
            repeats := r.repeats, tagChanges := changes, placement := placement } ∧
        (∀ last, r.onLine = true → r.lastSeq = some last →
          missed = min (r.missed + ((64 + h.seq.toNat - last.toNat) % 64 - 1)) 255) ∧
        (r.onLine = false → missed = min r.missed 255 ∧ changes = r.tagChanges) ∧
        (∀ tag, r.onLine = true → r.tag = some tag →
          changes = if tag = h.tag then r.tagChanges else min (r.tagChanges + 1) 255)

/-- A repeat, by the heard flag or by its sequence (R81, R82): counted at the station and in the record, and nothing else of image,
queue or terms. -/
def Obligations.RepeatOnlyCounts : Prop :=
  ∀ (s : State) (cfg : Configuration) (levels : List Level) (first : Bool) (cursor : Cursor) (body : List Byte)
    (h : Header) (points : List Byte),
    s.hears cfg levels (.opened cursor) body → judge body = .valid .data h points → h.station ≤ cfg.high →
    h.station ≠ cfg.own →
    ((s.member h.station).heard = true ∨
      ((s.member h.station).onLine = true ∧ (s.member h.station).lastSeq = some h.seq)) →
    ∃ t, exec (.frameReceived levels first) s = .next t ∧
      t = { s with rx := t.rx, trk := t.trk, cnt := t.cnt, img := { s.img with roster := t.img.roster } } ∧
      t.cnt.repeats = min (s.cnt.repeats + 1) 65535 ∧
      t.member h.station =
        { s.member h.station with repeats := min ((s.member h.station).repeats + 1) 255 } ∧
      ∀ m, m ≠ h.station → t.member m = s.member m

/-- Where a refreshed member's points go (R10–R13): a first frame appends an entry at the free pointer, as long as the space allows;
points within frame and entry take level and supplied flag, entry points beyond the frame lose the flag and keep the level, every
other pool point stands; a member without an entry after its first frame, UNPLACED, writes nothing and keeps its placement. The events
of one refresh stand in the order presence, TAG_CHANGED, POOL_SHORT (R4, R9, R83): POOL_SHORT with the points placed where a first
frame finds too little space (R12), with the entry's length where a wider frame turns FULL into TRUNCATED (R13), and otherwise none.
-/
def Obligations.RefreshWritesPointsAndPosts : Prop :=
  (∀ (s : State) (h : Header) (points : List Byte), AllocationLaw s →
      ((s.member h.station).placement = .none ↔ (s.member h.station).presence = .unseen) →
      let wanted := 8 * h.width
      let free := 512 - freePointer s.img.table
      let t := s.refreshRecord h points
      ((s.member h.station).placement ≠ .none → t.img.table = s.img.table) ∧
      ((s.member h.station).placement = .none →
        (free = 0 → t.img.table = s.img.table ∧ (t.member h.station).placement = .unplaced) ∧
        (0 < free →
          t.img.table = s.img.table ++
            [{ station := h.station, offset := freePointer s.img.table, length := min wanted free }] ∧
          (t.member h.station).placement = if wanted ≤ free then .full else .truncated)) ∧
      ((s.member h.station).placement ≠ .none → entryOf s.img.table h.station = none →
        (t.member h.station).placement = (s.member h.station).placement) ∧
      (entryOf t.img.table h.station = none → t.img.pool = s.img.pool) ∧
      ∀ e, entryOf t.img.table h.station = some e →
        (t.member h.station).placement = (if wanted ≤ e.length then .full else .truncated) ∧
        ∀ i < 512,
          (e.offset ≤ i → i < e.offset + e.length → i - e.offset < wanted →
            t.img.pool.levels.getLsbD i = pointOf points (i - e.offset) ∧ t.img.pool.supplied.getLsbD i = true) ∧
          (e.offset ≤ i → i < e.offset + e.length → wanted ≤ i - e.offset →
            t.img.pool.levels.getLsbD i = s.img.pool.levels.getLsbD i ∧ t.img.pool.supplied.getLsbD i = false) ∧
          (i < e.offset ∨ e.offset + e.length ≤ i →
            t.img.pool.levels.getLsbD i = s.img.pool.levels.getLsbD i ∧
              t.img.pool.supplied.getLsbD i = s.img.pool.supplied.getLsbD i)) ∧
  (∀ (s : State) (h : Header) (points : List Byte),
      ((s.member h.station).placement = .none → entryOf s.img.table h.station = none) →
      let r := s.member h.station
      let wanted := 8 * h.width
      let free := 512 - freePointer s.img.table
      let t := s.refreshRecord h points
      ∃ presence tag short : List (EventKind × Nat × Nat),
        t.tap = (s.postAll (presence ++ tag ++ short)).tap ∧
        (r.presence = .unseen → presence = [(.memberNew, h.station.val, 0)]) ∧
        (r.presence = .absent → presence = [(.memberReturned, h.station.val, 0)]) ∧
        (r.presence = .late → presence = [(.memberRecovered, h.station.val, 0)]) ∧
        (r.presence = .present → presence = []) ∧
        (tag = if r.onLine = true ∧ r.tag ≠ none ∧ r.tag ≠ some h.tag then
          [(.tagChanged, h.station.val, h.tag.toNat)] else []) ∧
        (r.placement = .none → short =
          if wanted ≤ free then [] else [(.poolShort, h.station.val, free)]) ∧
        (r.placement ≠ .none → entryOf s.img.table h.station = none → short = []) ∧
        ∀ e, r.placement ≠ .none → entryOf s.img.table h.station = some e → short =
          if r.placement = .full ∧ e.length < wanted then [(.poolShort, h.station.val, e.length)] else [])

/-- A LEAVE frame of a peer (R5, R85): a PRESENT, LATE or silent record leaves with age 255 and MEMBER_LEFT; an UNSEEN one and one that
has left already stand, without an event; no other record, no entry and no point changes. -/
def Obligations.PeerLeaveDeparts : Prop :=
  ∀ (s : State) (cfg : Configuration) (levels : List Level) (first : Bool) (cursor : Cursor) (body : List Byte)
    (h : Header) (points : List Byte),
    s.hears cfg levels (.opened cursor) body → judge body = .valid .leave h points → h.station ≤ cfg.high →
    h.station ≠ cfg.own →
    let r := s.member h.station
    let stands := r.presence = .unseen ∨ (r.presence = .absent ∧ r.reason = some .left)
    ∃ t, exec (.frameReceived levels first) s = .next t ∧
      t = { s with rx := t.rx, trk := t.trk, cnt := t.cnt, tap := t.tap,
                   img := { s.img with roster := t.img.roster } } ∧
      (∀ m, m ≠ h.station → t.member m = s.member m) ∧ t.cnt.repeats = s.cnt.repeats ∧
      (stands → t.member h.station = r ∧ t.tap = s.tap) ∧
      (¬ stands →
        t.member h.station = { r with age := 255, presence := .absent, reason := some .left } ∧
          t.tap = (s.post .memberLeft h.station.val 255).tap)

/-- A duplicate sighting (R6, R86, R113): the own-number record takes the frame as R6 gives, LISTEN, ACTIVE and WITHDRAWN enter
DUPLICATE with the withdrawal abandoned and the outputs at their safe levels, DUPLICATE and LINE_FAULT with reason TX stand. -/
def Obligations.SightingEntersDuplicate : Prop :=
  ∀ (s : State) (cfg : Configuration) (levels : List Level) (first : Bool) (cursor : Cursor) (body : List Byte)
    (kind : FrameKind) (h : Header) (points : List Byte),
    s.hears cfg levels (.opened cursor) body → judge body = .valid kind h points → h.station = cfg.own →
    cfg.own ≤ cfg.high →
    let r := s.member cfg.own
    ∃ t, exec (.frameReceived levels first) s = .next t ∧
      t = { s with ctl := t.ctl, rx := t.rx, trk := t.trk, tx := t.tx, cnt := t.cnt, tap := t.tap,
                   drv := { s.drv with levels := t.drv.levels }, img := { s.img with roster := t.img.roster } } ∧
      (∀ m, m ≠ cfg.own → t.member m = s.member m) ∧
      (kind = .data → r.heard = true → t.member cfg.own = r) ∧
      (kind = .data → r.heard = false →
        t.member cfg.own =
          { r with heard := true, age := 0, cadence := some h.cadence, presence := .present, reason := none }) ∧
      (kind = .leave → r.presence = .unseen → t.member cfg.own = r) ∧
      (kind = .leave → r.presence ≠ .unseen →
        t.member cfg.own = { r with age := 255, presence := .absent, reason := some .left }) ∧
      ((∃ count, s.ctl.station = .listen count) ∨ s.ctl.station = .active ∨ s.ctl.station = .withdrawn →
        t.ctl = { s.ctl with station := .duplicate, withdrawalPending := false } ∧
          t.tx = { s.tx with attempt := .idle, kind := none, buffer := none, driven := 0 } ∧
          SafeOutputs cfg t.drv.levels ∧ PostsState 5 0x40 s t) ∧
      (s.ctl.station = .duplicate ∨ s.ctl.station = .lineFault .tx →
        t.ctl = s.ctl ∧ t.tx = s.tx ∧ t.drv = s.drv ∧ t.tap = s.tap)

/-! ### Line faults -/

/-- A stuck line (R48, R63, R80, R101, R120): LINE_FAULT with reason STUCK from every receiving state, mark and frame released,
receiver, timer and walk stopped, the withdrawal abandoned, image, terms, round count and transmit-fault-held flag as they were. A
line that clears (R48, R121): to LISTEN with count 0, timer from zero, receiver afresh and consecutive-loss count 0; with a transmit
fault held to LINE_FAULT with reason TX, timer stopped, fault and last stop reason TX again. -/
def Obligations.LineFaultByStuckLineAndItsEnd : Prop :=
  (∀ (s : State) (cfg : Configuration), s.ldr.config = some cfg → s.ctl.station.receives = true →
      ∃ t, exec .stuck s = .next t ∧
        t = { s with
          ctl := { s.ctl with
            station := .lineFault .stuck, withdrawalPending := false, lastStop := some (.line .stuck) }
          line := { s.line with mark := none }
          trk := { s.trk with timer := .stopped, markDue := false, walk := .idle, inMark := false }
          rx := Receiver.fresh
          tx := { s.tx with attempt := .idle, kind := none, buffer := none, driven := 0 }
          drv := { s.drv with levels := t.drv.levels }
          tap := t.tap } ∧
        SafeOutputs cfg t.drv.levels ∧ PostsState 6 0x50 s t ∧ t.ltx = recessive) ∧
  (∀ (s : State) (cfg : Configuration), s.ldr.config = some cfg → s.ctl.station = .lineFault .stuck →
      ∃ t, exec .lineClear s = .next t ∧
        t = { s with
          ctl := t.ctl, line := t.line, trk := { s.trk with timer := t.trk.timer, markDue := t.trk.markDue }
          rx := Receiver.fresh, tx := t.tx, drv := { s.drv with levels := t.drv.levels }, tap := t.tap } ∧
        SafeOutputs cfg t.drv.levels ∧
        (s.ctl.txHeld = false →
          t.ctl = { s.ctl with station := .listen 0 } ∧ t.line = s.line ∧ t.trk = { s.trk with timer := .running 0 } ∧
            t.tx = { s.tx with attempt := .idle, kind := none, buffer := none, driven := 0, losses := 0 } ∧
            PostsState 2 0x13 s t) ∧
        (s.ctl.txHeld = true →
          t.ctl = { s.ctl with
            station := .lineFault .tx, withdrawalPending := false, lastStop := some (.line .tx) } ∧
          t.trk = { s.trk with timer := .stopped, markDue := false } ∧ t.line = { s.line with mark := none } ∧
          t.tx = { s.tx with attempt := .idle, kind := none, buffer := none, driven := 0 } ∧ PostsState 6 0x51 s t))

/-! ### The inputs -/

/-- A tick and the acceptances due at it (R21, R124, R127, R129, R130): an input that agrees loses its count, one that differs counts
up, and at its settle count it is accepted; live own points sourced from an accepted input take its level together; INPUT events for
enabled groups in ascending number; nothing else moves. The part takes them as TICK and INPUT_ACCEPTED, one after the other
(log 9); what a tick says of the close to come is held until then (log 18). A level that differs at consecutive ticks is accepted at the
settle-count-th of them and not before (R128). -/
def Obligations.TickSamplesAndAccepts : Prop :=
  (∀ (s : State) (cfg : Configuration) (inputs : Vector InputState 16) (own : BitVec 64) (raw : BitVec 16) (place : Option Nat),
      s.ldr.config = some cfg → s.inp = some inputs → s.img.own = some own →
      (∀ j : Fin 16, (inputs.get j).count < 2 ^ (cfg.settle.get (groupOf j)).val) →
      let accepts (j : Fin 16) : Prop :=
        raw.getLsbD j.val ≠ (inputs.get j).accepted ∧
          (inputs.get j).count + 1 = 2 ^ (cfg.settle.get (groupOf j)).val
      ∃ t u sampled after own', exec (.tick { raw := raw, within := place }) s = .next t ∧
        exec .inputAccepted t = .next u ∧
        t = { s with inputPins := raw, inp := some sampled, within := place } ∧
        u = { s with
          inputPins := raw, inp := some after, within := none, img := { s.img with own := some own' }, tap := u.tap } ∧
        (∀ j : Fin 16,
          let i := inputs.get j
          (raw.getLsbD j.val = i.accepted → after.get j = { i with count := 0 }) ∧
          (raw.getLsbD j.val ≠ i.accepted → ¬ accepts j → after.get j = { i with count := i.count + 1 }) ∧
          (accepts j → after.get j = { accepted := raw.getLsbD j.val, count := 0 })) ∧
        (∀ p : Fin 64,
          (∀ j, p.val < 8 * cfg.width → cfg.points.get p = .input j → accepts j →
            own'.getLsbD p.val = raw.getLsbD j.val) ∧
          ((¬ ∃ j, p.val < 8 * cfg.width ∧ cfg.points.get p = .input j ∧ accepts j) →
            own'.getLsbD p.val = own.getLsbD p.val)) ∧
        ∃ events, u.tap = (s.postAll events).tap ∧ (events.map (·.2.1)).Pairwise (· < ·) ∧
          ∀ kind subject detail, (kind, subject, detail) ∈ events ↔
            kind = .input ∧ ∃ j : Fin 16, subject = j.val ∧ detail = (raw.getLsbD j.val).toNat ∧ accepts j ∧
              cfg.enables.getLsbD (groupOf j).val = true) ∧
  (∀ (s : State) (cfg : Configuration) (inputs : Vector InputState 16) (j : Fin 16) (raws : List (BitVec 16)),
      s.ldr.config = some cfg → s.inp = some inputs →
      (∀ i : Fin 16, (inputs.get i).count < 2 ^ (cfg.settle.get (groupOf i)).val) → (inputs.get j).count = 0 →
      (∀ raw ∈ raws, raw.getLsbD j.val ≠ (inputs.get j).accepted) →
      raws.length ≤ 2 ^ (cfg.settle.get (groupOf j)).val →
      let run : Instr → State → State := fun c x => match exec c x with
        | .next y => y
        | .fault _ => x
        | .refused _ => x
      ∃ after, (raws.foldl (fun x raw => run .inputAccepted (run (.tick { raw := raw }) x)) s).inp = some after ∧
        after.get j =
          if raws.length < 2 ^ (cfg.settle.get (groupOf j)).val then
            { accepted := (inputs.get j).accepted, count := raws.length }
          else { accepted := !(inputs.get j).accepted, count := 0 })

/-! ### The event queue -/

/-- Posting (R163): a kind the mask leaves out while a configuration is held changes nothing; otherwise the event is appended under the
loss mark while there is room, and dropped and counted where there is none. ATTN is asserted after it (R165). -/
def Obligations.PostingFollowsMaskAndRoom : Prop :=
  ∀ (s : State) (kind : EventKind) (subject detail : Nat),
    let allowed := ∀ cfg, s.ldr.config = some cfg → cfg.mask.getLsbD kind.bit = true
    let t := s.post kind subject detail
    (¬ allowed → t = s) ∧
    (allowed → s.tap.queue.length < 32 →
      t = { s with
        tap := { s.tap with
          queue := s.tap.queue ++
            [{ kind := kind, subject := BitVec.ofNat 8 subject, stamp := s.trk.round,
               detail := BitVec.ofNat 10 detail, afterLoss := s.tap.lossMark }]
          lossMark := false } }) ∧
    (allowed → 32 ≤ s.tap.queue.length →
      t = { s with tap := { s.tap with lostEvents := min (s.tap.lostEvents + 1) 65535, lossMark := true } }) ∧
    (allowed → s.power = .running → t.attn = true)

/-! ### The tap -/

/-- Chip select falling (R155, R156, R157, R170): a transaction opens with nothing received, and the status byte is captured with its
five fields and begins to go out, its most significant bit on the pin; in the reset condition, and with chip select low already, no
transaction starts. The data output is released in the reset condition and while chip select is high (R156, R172). -/
def Obligations.ChipSelectOpensTransaction : Prop :=
  ∀ s : State,
    (s.power = .running → s.tapSelectLow = false → s.tap.trans = .idle →
      ∃ (status : Byte) (t : State), exec .chipSelectFalling s = .next t ∧
        t = { s with
          tapSelectLow := true
          tap := { s.tap with
            trans := .opened { code := none, args := [], spare := [], latch := none }, status := status, dout := [] } } ∧
        t.tapDo = some (status.getLsbD 7) ∧
        status.toNat =
          32 * s.ctl.station.code + 16 * (if s.tap.queue = [] then 0 else 1) + 4 * s.tap.lastResult.code +
            2 * s.ctl.withdrawalPending.toNat + s.img.repackPending.toNat) ∧
    (s.power ≠ .running ∨ s.tapSelectLow = true → exec .chipSelectFalling s = .next { s with tapSelectLow := true }) ∧
    (s.tapDo = none ↔ s.power ≠ .running ∨ s.tapSelectLow = false)

/-- The bytes a processor sends are read back as the command they spell (R158, R170): every well-formed tap command, with whatever
bytes follow its arguments, and every malformed one. -/
def Obligations.TapBytesReadBack : Prop :=
  ∀ (i : Instr) (part : TapPart) (bytes extra : List Byte), i.wf = true → encodeTap i = some bytes →
    (tapPartOf i = some part → decodeTap (bytes ++ extra) part = i) ∧
    (tapPartOf i = none → decodeTap bytes part = i)

/-- The bits of a command on their way (R155, R156; the parts of a transaction are log 10). Until it is complete the transaction holds
the code once its first byte is in, the arguments received, and the bits of a byte under way; status byte and 00h for the arguments go
out, bit by bit, the next bit on the pin. A command that completes is held with its code, its arguments and the response fixed for it;
nothing else of the part moves (R159, R160, R164). The whole of a transaction is its command's completion and then the rising edge,
whatever bytes spell it. -/
def Obligations.CompletedCommandIsHeldToTheEdge : Prop :=
  (∀ (s : State) (code : Byte) (args : List Byte) (clocks : Nat), tapArguments code.toNat = some args.length →
      s.underway (bitsOfBytes (code :: args)) → s.tap.dout.length + clocks < 8 * (args.length + 1) →
      let n := s.tap.dout.length + clocks
      let bits := (bitsOfBytes (code :: args)).take n
      ∃ t, exec (decodeTap (code :: args) (.arriving clocks)) s = .next t ∧
        t = { s with
          tap := { s.tap with
            trans := .opened
              { code := if 8 ≤ n then some code else none, args := args.take (n / 8 - 1), spare := bits.drop (n / 8 * 8)
                latch := none }
            dout := outLevels s.tap.status args.length [] n } } ∧
        t.underway (bitsOfBytes (code :: args)) ∧
        (s.power = .running → s.tapSelectLow = true →
          t.tapDo = some (if n < 8 then s.tap.status.getLsbD (7 - n) else false))) ∧
  (∀ (s : State) (first last station n : Byte) (image : List Byte),
      let held (code : Byte) (args response : List Byte) (take : Nat) (t : Host.Outcome State Fault Refusal) : Prop :=
        s.underway (bitsOfBytes (code :: args)) → t =
          .next { s with
            tap := { s.tap with
              trans := .opened
                { code := some code, args := args, spare := [], latch := some { response := response, take := take } }
              dout := outLevels s.tap.status args.length response (8 * (args.length + 1)) } }
      let k := if 1 ≤ n.toNat ∧ n.toNat ≤ 32 then min n.toNat s.tap.queue.length else 0
      held 0x01 [] s.statusResponse 0 (exec (.readStatus .complete) s) ∧
      held 0x02 [] s.countersResponse 0 (exec (.readCounters .complete) s) ∧
      held 0x03 [first, last] (s.tap.published.rosterResponse first last) 0 (exec (.readRoster first last .complete) s) ∧
      held 0x04 [station] (s.pointsResponse station) 0 (exec (.readPoints station .complete) s) ∧
      held 0x05 [] s.tap.published.termsResponse 0 (exec (.readTerms .complete) s) ∧
      held 0x06 [n] (BitVec.ofNat 8 k :: (s.tap.queue.take k).flatMap Event.bytes) k (exec (.takeEvents n .complete) s) ∧
      held 0x10 [] [] 0 (exec (.withdraw .complete) s) ∧ held 0x11 [] [] 0 (exec (.rejoin .complete) s) ∧
      held 0x12 [] [] 0 (exec (.repack .complete) s) ∧ held 0x13 [] [] 0 (exec (.clearCounters .complete) s) ∧
      held 0x14 [] [] 0 (exec (.restart .complete) s) ∧
      (image.length = 512 → held 0x20 image [] 0 (exec (.loadConfig image .complete) s))) ∧
  (∀ (received : List Byte) (clocks : Nat) (s : State), tapComplete received = true →
      ∃ t, exec (decodeTap received .complete) s = .next t ∧
        exec (decodeTap received (.whole clocks)) s = exec (decodeTap received (.rising clocks)) t)

/-- The responses byte by byte, under the widths that the records have (R159, R160, R162, R170, R171): READ STATUS with its reason
codes, READ COUNTERS in order, READ ROSTER with table length, free pointer and every byte of a record, READ POINTS of a peer and of
the own number, READ TERMS with phase, count and flags of every term, an event record; zeros for a read out of range (R158). -/
def Obligations.ResponsesHaveTheirLayout : Prop :=
  ∀ (s : State) (first last station : Byte),
    let at' (l : List Byte) (i : Nat) : Nat := (l.getD i 0).toNat
    let be (l : List Byte) (i : Nat) : Nat := 256 * at' l i + at' l (i + 1)
    let reason (r : Option StopReason) : Nat := match r with
      | none => 0
      | some (.check c) => 0x60 + c.number
      | some (.line .stuck) => 0x50
      | some (.line .tx) => 0x51
    let c := s.tap.published
    let roster := c.rosterResponse first last
    let points := s.pointsResponse station
    let number : StationNo := Fin.ofNat 32 station.toNat
    let terms := c.termsResponse
    (s.statusResponse.length = 9 ∧ at' s.statusResponse 0 = s.ctl.station.code ∧
      at' s.statusResponse 1 = reason s.ctl.station.fault ∧ at' s.statusResponse 2 = reason s.ctl.lastStop ∧
      (s.ctl.restarts ≤ 255 → at' s.statusResponse 3 = s.ctl.restarts) ∧
      be s.statusResponse 4 = s.trk.round.toNat ∧
      (QueueLaw s → at' s.statusResponse 6 = s.tap.queue.length ∧ be s.statusResponse 7 = s.tap.lostEvents)) ∧
    (s.countersResponse.length = 42 ∧
      ∀ i < 21, s.cnt.toList.getD i 0 ≤ 65535 → be s.countersResponse (2 * i) = s.cnt.toList.getD i 0) ∧
    (first.toNat ≤ last.toNat → last.toNat ≤ 31 →
      roster.length = 5 + 16 * (last.toNat - first.toNat + 1) ∧ be roster 0 = c.stamp.toNat ∧
        (c.table.length ≤ 32 → at' roster 2 = c.table.length) ∧
        (freePointer c.table ≤ 512 → be roster 3 = freePointer c.table) ∧
        ∀ n : StationNo, first.toNat ≤ n.val → n.val ≤ last.toNat →
          let r := c.roster.get n
          let base := 5 + 16 * (n.val - first.toNat)
          r.age ≤ 255 → r.width.getD 0 ≤ 8 → r.missed ≤ 255 → r.repeats ≤ 255 → r.tagChanges ≤ 255 →
          (∀ e, entryOf c.table n = some e → e.offset ≤ 511 ∧ e.length ≤ 64) →
          at' roster base =
            (match r.presence with
              | .unseen => 0
              | .present => 1
              | .late => 2
              | .absent => 3) +
            (match r.reason with
              | none => 0
              | some .silent => 4
              | some .left => 8) ∧
          at' roster (base + 1) = r.age ∧
          at' roster (base + 2) = (match r.cadence with
            | none => 0
            | some .one => 1
            | some .two => 2
            | some .four => 4
            | some .eight => 8) ∧
          at' roster (base + 3) = r.width.getD 0 ∧
          at' roster (base + 4) = (match r.lastSeq with
            | none => 0xFF
            | some seq => seq.toNat) ∧
          be roster (base + 5) = (match r.tag with
            | none => 0xFFFF
            | some tag => tag.toNat) ∧
          at' roster (base + 7) = (match r.flags with
            | none => 0xFF
            | some f => 2 * f.stale.toNat + f.pool.toNat) ∧
          at' roster (base + 8) = r.missed ∧ at' roster (base + 9) = r.repeats ∧ at' roster (base + 10) = r.tagChanges ∧
          at' roster (base + 11) = (match r.placement with
            | .none => 0
            | .full => 1
            | .truncated => 2
            | .unplaced => 3) ∧
          be roster (base + 12) = (match entryOf c.table n with
            | none => 0xFFFF
            | some e => e.offset) ∧
          at' roster (base + 14) = (match entryOf c.table n with
            | none => 0
            | some e => e.length) ∧
          at' roster (base + 15) = 0) ∧
    (¬ (first.toNat ≤ last.toNat ∧ last.toNat ≤ 31) → roster = List.replicate 21 0) ∧
    (points.length = 20 ∧ (station.toNat ≤ 31 → be points 0 = c.stamp.toNat) ∧
      (station.toNat ≤ 31 → (∀ cfg, s.ldr.config = some cfg → number ≠ cfg.own) →
        at' points 2 = (c.roster.get number).placement.code ∧
        (entryOf c.table number = none → at' points 3 = 0 ∧
          ∀ p < 64, (points.getD (4 + p / 8) 0).getLsbD (p % 8) = false ∧
            (points.getD (12 + p / 8) 0).getLsbD (p % 8) = false) ∧
        ∀ e, entryOf c.table number = some e → e.length ≤ 64 → at' points 3 = e.length ∧
          ∀ p < 64,
            (points.getD (4 + p / 8) 0).getLsbD (p % 8) = (decide (p < e.length) && c.pool.levels.getLsbD (e.offset + p)) ∧
            (points.getD (12 + p / 8) 0).getLsbD (p % 8) =
              (decide (p < e.length) && c.pool.supplied.getLsbD (e.offset + p))) ∧
      (∀ cfg, s.ldr.config = some cfg → cfg.width ≤ 8 → station.toNat = cfg.own.val →
        at' points 2 = 0 ∧
        (c.own = none → at' points 3 = 0 ∧ ∀ p < 64, (points.getD (4 + p / 8) 0).getLsbD (p % 8) = false ∧
          (points.getD (12 + p / 8) 0).getLsbD (p % 8) = false) ∧
        ∀ own, c.own = some own → at' points 3 = 8 * cfg.width ∧
          ∀ p < 64,
            (points.getD (4 + p / 8) 0).getLsbD (p % 8) = (decide (p < 8 * cfg.width) && own.getLsbD p) ∧
            (points.getD (12 + p / 8) 0).getLsbD (p % 8) = decide (p < 8 * cfg.width)) ∧
      (32 ≤ station.toNat → points = List.replicate 20 0)) ∧
    (terms.length = 52 ∧ be terms 0 = c.stamp.toNat ∧ terms.getD 51 0 = c.levels ∧ at' terms 50 = c.stale.toNat ∧
      ∀ j : TermNo,
        let t := c.terms.get j
        at' terms (2 + 3 * j.val) = (match t.phase with
          | .off => 0
          | .arming _ => 1
          | .on => 2
          | .disarming _ => 3) ∧
        (∀ count ≤ 255, t.phase = .arming count ∨ t.phase = .disarming count → at' terms (3 + 3 * j.val) = count) ∧
        (t.phase = .off ∨ t.phase = .on → at' terms (3 + 3 * j.val) = 0) ∧
        at' terms (4 + 3 * j.val) =
          128 * t.phase.value.toNat +
          (match t.lastRaw with
            | .unknown => 0
            | .yes => 16
            | .no => 32) + t.byPolicy.toNat) ∧
    ∀ e : Event,
      e.bytes.length = 6 ∧ at' e.bytes 0 = e.kind.bit + 1 ∧ e.bytes.getD 1 0 = e.subject ∧ be e.bytes 2 = e.stamp.toNat ∧
        be e.bytes 4 = 32768 * e.afterLoss.toNat + e.detail.toNat

/-- The reads at chip select rising, as its own part of the transaction (log 10; R156, R158): the bits go out, a staged copy is
published, the result is ACCEPTED, or REFUSED for an argument out of range, and nothing else moves. TAKE EVENTS (R164): of the k
entries held out, those whose six bytes all went out, behind status byte, argument byte and count byte, leave the head of the queue;
an argument outside 1 to 32 removes nothing and is REFUSED. -/
def Obligations.ReadsAndTakesEndTransaction : Prop :=
  (∀ (s : State) (l : Latch) (clocks : Nat) (first last station : Byte),
      let done (args : Nat) (accepted : Prop) (t : Host.Outcome State Fault Refusal) : Prop :=
        (accepted → t = .next (s.ended .accepted (s.outAfter args l clocks))) ∧
          (¬ accepted → t = .next (s.ended .refused (s.outAfter args l clocks)))
      (s.holds 0x01 [] l → done 0 True (exec (.readStatus (.rising clocks)) s)) ∧
      (s.holds 0x02 [] l → done 0 True (exec (.readCounters (.rising clocks)) s)) ∧
      (s.holds 0x03 [first, last] l →
        done 2 (first.toNat ≤ last.toNat ∧ last.toNat ≤ 31) (exec (.readRoster first last (.rising clocks)) s)) ∧
      (s.holds 0x04 [station] l → done 1 (station.toNat ≤ 31) (exec (.readPoints station (.rising clocks)) s)) ∧
      (s.holds 0x05 [] l → done 0 True (exec (.readTerms (.rising clocks)) s))) ∧
  (∀ (s : State) (l : Latch) (clocks : Nat) (n : Byte), s.holds 0x06 [n] l →
      let out := s.outAfter 1 l clocks
      (1 ≤ n.toNat → n.toNat ≤ 32 →
        ∃ gone, exec (.takeEvents n (.rising clocks)) s =
            .next (State.ended { s with tap := { s.tap with queue := s.tap.queue.drop gone } } .accepted out) ∧
          gone ≤ l.take ∧ (∀ i < l.take, (i < gone ↔ 8 * (3 + 6 * (i + 1)) ≤ s.tap.dout.length + clocks))) ∧
      (n.toNat = 0 ∨ 32 < n.toNat → exec (.takeEvents n (.rising clocks)) s = .next (s.ended .refused out)))

/-- The commands at chip select rising. WITHDRAW (R115): accepted in ACTIVE with the flag clear, which it sets; refused without effect
elsewhere. REJOIN (R116): in ACTIVE it clears a pending withdrawal; in WITHDRAWN it enters LISTEN with count 0, loss count 0, outputs
at their safe levels; refused without effect elsewhere. REPACK (R15, R158) sets its flag outside LOADING and CONFIG_FAULT, where it is
refused. CLEAR COUNTERS (R20, R166) zeroes the station counters, the three counts of every record and the lost-event count, and no
other field. -/
def Obligations.StationCommandsTakeEffect : Prop :=
  (∀ (s : State) (l : Latch) (clocks : Nat), s.holds 0x10 [] l →
      let out := s.outAfter 0 l clocks
      (s.ctl.station = .active → s.ctl.withdrawalPending = false →
        exec (.withdraw (.rising clocks)) s =
          .next (State.ended { s with ctl := { s.ctl with withdrawalPending := true } } .accepted out)) ∧
      (¬ (s.ctl.station = .active ∧ s.ctl.withdrawalPending = false) →
        exec (.withdraw (.rising clocks)) s = .next (s.ended .refused out))) ∧
  (∀ (s : State) (l : Latch) (clocks : Nat), s.holds 0x11 [] l →
      let out := s.outAfter 0 l clocks
      (s.ctl.station = .active → s.ctl.withdrawalPending = true →
        exec (.rejoin (.rising clocks)) s =
          .next (State.ended { s with ctl := { s.ctl with withdrawalPending := false } } .accepted out)) ∧
      (∀ cfg, s.ctl.station = .withdrawn → s.ldr.config = some cfg →
        ∃ t : State, exec (.rejoin (.rising clocks)) s = .next (t.ended .accepted out) ∧
          t = { s with
            ctl := { s.ctl with station := .listen 0 }
            tx := { s.tx with attempt := .idle, kind := none, buffer := none, driven := 0, losses := 0 }
            drv := { s.drv with levels := t.drv.levels }
            tap := t.tap } ∧
          SafeOutputs cfg t.drv.levels ∧ PostsState 2 0x11 s t) ∧
      (s.ctl.station ≠ .withdrawn → ¬ (s.ctl.station = .active ∧ s.ctl.withdrawalPending = true) →
        exec (.rejoin (.rising clocks)) s = .next (s.ended .refused out))) ∧
  (∀ (s : State) (l : Latch) (clocks : Nat),
      let out := s.outAfter 0 l clocks
      (s.holds 0x12 [] l →
        (s.ctl.station.unconfigured = false →
          exec (.repack (.rising clocks)) s =
            .next (State.ended { s with img := { s.img with repackPending := true } } .accepted out)) ∧
        (s.ctl.station.unconfigured = true →
          exec (.repack (.rising clocks)) s = .next (s.ended .refused out))) ∧
      (s.holds 0x13 [] l →
        ∃ t : State, exec (.clearCounters (.rising clocks)) s = .next (t.ended .accepted out) ∧
          t = { s with
            cnt := t.cnt, img := { s.img with roster := t.img.roster }, tap := { s.tap with lostEvents := 0 } } ∧
          (∀ c ∈ t.cnt.toList, c = 0) ∧
          ∀ n, t.member n = { s.member n with missed := 0, repeats := 0, tagChanges := 0 }))

/-- RESTART (R109, R155): accepted in every state; every block at its reset values, the strap's held value, the last stop reason and the
bumped restart count kept, one STATE event in the emptied queue, the copies empty, the result ACCEPTED. A memory read cut short leaves
the chip select released, and command and address are to be sent afresh (R147; log 11 for how long). LOAD CONFIG (R110, R142, R146,
R155): in WAITING the image goes to the checks; in LOADING otherwise it is refused; in every other state the part enters LOADING in
CHECKING with the image, keeping the last stop reason, restart count, counters, queue, loss mark and lost-event count. -/
def Obligations.RestartAndLoadConfigEnterLoading : Prop :=
  (∀ (s : State) (l : Latch) (clocks : Nat), s.holds 0x14 [] l →
      exec (.restart (.rising clocks)) s =
        .next { s.atLoading s.strap
            { Controller.reset with lastStop := s.ctl.lastStop, restarts := min (s.ctl.restarts + 1) 255 }
            { phase := if s.strap = .memory then .reading else .waiting, buffer := [], config := none
              command := if s.strap = .memory then [0x03, 0x00, 0x00] else []
              selectLow := decide (s.strap = .memory ∧ ¬ (s.ldr.phase = .reading ∧ s.ldr.selectLow = true)) }
            { Tap.reset with
              queue := [loadingEvent 0x02], lastResult := .accepted, status := s.tap.status
              dout := s.outAfter 0 l clocks }
            Counters.zero with
          tapSelectLow := false }) ∧
  (∀ (s : State) (l : Latch) (clocks : Nat) (image : List Byte), image.length = 512 → s.holds 0x20 image l →
      let out := s.outAfter 512 l clocks
      (s.ctl.station = .loading → s.ldr.phase = .waiting →
        exec (.loadConfig image (.rising clocks)) s =
          .next (State.ended { s with ldr := { s.ldr with phase := .checking, buffer := image } } .accepted out)) ∧
      (s.ctl.station = .loading → s.ldr.phase ≠ .waiting →
        exec (.loadConfig image (.rising clocks)) s = .next (s.ended .refused out)) ∧
      (s.ctl.station ≠ .loading →
        ∃ t : State, exec (.loadConfig image (.rising clocks)) s = .next { t with tapSelectLow := false } ∧
          t = s.atLoading s.strap
            { Controller.reset with lastStop := s.ctl.lastStop, restarts := s.ctl.restarts }
            { phase := .checking, buffer := image, config := none } t.tap s.cnt ∧
          t.tap = { Tap.reset with
            queue := t.tap.queue, lossMark := t.tap.lossMark, lostEvents := t.tap.lostEvents
            lastResult := .accepted, status := s.tap.status, dout := out } ∧
          (s.tap.queue.length < 32 →
            t.tap.queue = s.tap.queue ++ [{ loadingEvent 0x03 with afterLoss := s.tap.lossMark }] ∧
              t.tap.lossMark = false ∧ t.tap.lostEvents = s.tap.lostEvents) ∧
          (32 ≤ s.tap.queue.length →
            t.tap.queue = s.tap.queue ∧ t.tap.lossMark = true ∧
              t.tap.lostEvents = min (s.tap.lostEvents + 1) 65535)))

/-- A transaction whose bits spell no complete known command (R155, R156): they arrive, an unknown code and arguments short of their number
held as what they are; at chip select rising it is MALFORMED with no other effect, a staged copy published; a LOAD CONFIG short of its
512 bytes is one. -/
def Obligations.MalformedEndsWithoutEffect : Prop :=
  (∀ (s : State) (received : List Byte) (spare : List Level),
      let bits := bitsOfBytes received ++ spare
      s.underway bits → tapComplete (bytesOfBits bits) = false →
      exec (.malformed { received := received, spare := spare, rises := false }) s =
        .next { s with
          tap := { s.tap with trans := .opened (Opened.ofBits bits), dout := outLevels s.tap.status 0 [] bits.length } } ∧
      exec (.malformed { received := received, spare := spare, rises := true }) s =
        .next (s.ended .malformed (outLevels s.tap.status 0 [] bits.length))) ∧
  (∀ (code : Byte) (more : List Byte), tapArguments code.toNat = none →
      Opened.ofBits (bitsOfBytes (code :: more)) = { code := some code, args := [], spare := [], latch := none }) ∧
  (∀ (s : State) (image : List Byte) (clocks : Nat), image.length < 512 → s.underway (bitsOfBytes (0x20 :: image)) →
      exec (.loadConfig image (.whole clocks)) s =
        .next (s.ended .malformed (outLevels s.tap.status 0 [] (8 * (image.length + 1)))))

/-! ### Laws that every command keeps -/

/-- The roster, its fields and the allocation table (R2, R3, R11). -/
def Obligations.StepKeepsRosterLaws : Prop :=
  ∀ s t : State, RosterLaw s → FieldLaw s → AllocationLaw s → step s = .next t →
    RosterLaw t ∧ FieldLaw t ∧ AllocationLaw t

/-- Every step keeps the term law and the output law (R27, R37, R136), the queue's room and the widths of the counts (R20, R64, R87,
R102, R163), each from itself alone. Own points, input filters and held values exist exactly while a configuration is held (R21, R126,
R135), given that station and loader agree. A candidate count is at most its settle count in every state, and below it but from a TICK
to the acceptances due at it (R126, R127; that these are two commands is log 9): no other step brings it there, and INPUT_ACCEPTED
leaves it below from every state. -/
def Obligations.StepKeepsTermOutputAndQueueLaws : Prop :=
  (∀ s t : State, step s = .next t → (TermLaw s → TermLaw t) ∧ (OutputLaw s → OutputLaw t)) ∧
  (∀ s t : State, step s = .next t → (QueueLaw s → QueueLaw t) ∧ (CountLaw s → CountLaw t)) ∧
  (∀ s t : State, step s = .next t → StationLaw s → PresenceLaw s → PresenceLaw t) ∧
  (∀ s t : State, step s = .next t →
      (CandidateLaw s → CandidateLaw t) ∧
      (SettledLaw s → (∀ sample rest, s.pending ≠ .tick sample :: rest) → SettledLaw t) ∧
      (∀ rest, s.pending = .inputAccepted :: rest → SettledLaw t))

/-- Station, loader, walk, timer, sender and configuration agree (R53, R63, R88, R103, R104, R117, R142, R151). -/
def Obligations.StepKeepsStationLaws : Prop :=
  ∀ s t : State, StationLaw s → ConfigurationLaw s → LossLaw s → step s = .next t →
    StationLaw t ∧ ConfigurationLaw t ∧ LossLaw t

/-- The state after reset obeys every law. -/
def Obligations.ResetStateIsLawful : Prop := Lawful State.reset

/-- The published copy changes only while no transaction is open, or at the end of one (R161): never across a step of an open
transaction. An entry leaves the queue only by TAKE EVENTS or by a reset or RESTART (R163): every other command leaves the entries
where they were, with new ones behind them. -/
def Obligations.CopyAndQueueHoldTheirContents : Prop :=
  (∀ s t : State, step s = .next t → s.tap.trans ≠ .idle → t.tap.trans ≠ .idle → t.tap.published = s.tap.published) ∧
  (∀ (c : Instr) (s t : State), exec c s = .next t →
      (∀ strap, c ≠ .powerOn strap ∧ c ≠ .resetNRising strap) → c ≠ .resetNLow →
      (∀ n part, c ≠ .takeEvents n part) → (∀ part, c ≠ .restart part) →
      ∃ new, t.tap.queue = s.tap.queue ++ new)

/-- Within one round the cursor never decreases (R54): a walk open before and after a step keeps its cursor or raises it. The round
count advances by one at a mark's end that opens a walk, is 0 after an entry to LOADING, and stands otherwise (R57). -/
def Obligations.CursorRisesAndRoundAdvances : Prop :=
  (∀ (s t : State) (before after : Cursor), step s = .next t → s.trk.walk = .opened before →
      t.trk.walk = .opened after →
      after = before ∨ (∃ n, after = .slot n ∧ before.below n = true)) ∧
  (∀ s t : State, step s = .next t →
      t.trk.round = s.trk.round ∨
        (t.trk.round = s.trk.round + 1 ∧ t.trk.walk = .opened .beforeZero ∧ (∀ c, s.trk.walk ≠ .opened c)) ∨
        (t.trk.round = 0 ∧ t.ctl.station = .loading))

/-- The station enters ACTIVE only at a close in LISTEN, with its own record UNSEEN or ABSENT there (R111, R112). -/
def Obligations.ActiveIsEnteredAtClose : Prop :=
  ∀ (s t : State) (cfg : Configuration), step s = .next t → s.ldr.config = some cfg → s.ctl.station ≠ .active →
    t.ctl.station = .active →
    (∃ count, s.ctl.station = .listen count ∧ cfg.listen ≤ count + 1) ∧ (t.member cfg.own).onLine = false ∧
      (∃ cursor, s.trk.walk = .opened cursor) ∧ t.trk.walk = .closed

/-- The transmit pin is recessive wherever the transceiver enable is released, and outside a mark only an ACTIVE station drives
(R89, R105). -/
def Obligations.ReleasedPartDrivesNothing : Prop :=
  ∀ s : State, StationLaw s →
    (s.lte = false → s.ltx = recessive) ∧
    (s.ltx = dominant → (s.line.mark ≠ none ∧ s.ctl.station.timing = true) ∨ s.ctl.station = .active)

end
end

