-- ==== Sys2Proof/Laws/State.lean ====
section
/-! SUPPORT. One lemma per field per update of the state, each true by unfolding, so that no proof unfolds a record update. -/

namespace Sys2Proof.Machine

/-! ### Counters -/

@[simp] theorem State.count_power (f : Counters → Counters) (s : State) : (s.count f).power = s.power := rfl
@[simp] theorem State.count_strap (f : Counters → Counters) (s : State) : (s.count f).strap = s.strap := rfl
@[simp] theorem State.count_tapSelectLow (f : Counters → Counters) (s : State) : (s.count f).tapSelectLow = s.tapSelectLow := rfl
@[simp] theorem State.count_inputPins (f : Counters → Counters) (s : State) : (s.count f).inputPins = s.inputPins := rfl
@[simp] theorem State.count_ctl (f : Counters → Counters) (s : State) : (s.count f).ctl = s.ctl := rfl
@[simp] theorem State.count_ldr (f : Counters → Counters) (s : State) : (s.count f).ldr = s.ldr := rfl
@[simp] theorem State.count_img (f : Counters → Counters) (s : State) : (s.count f).img = s.img := rfl
@[simp] theorem State.count_eng (f : Counters → Counters) (s : State) : (s.count f).eng = s.eng := rfl
@[simp] theorem State.count_line (f : Counters → Counters) (s : State) : (s.count f).line = s.line := rfl
@[simp] theorem State.count_trk (f : Counters → Counters) (s : State) : (s.count f).trk = s.trk := rfl
@[simp] theorem State.count_rx (f : Counters → Counters) (s : State) : (s.count f).rx = s.rx := rfl
@[simp] theorem State.count_tx (f : Counters → Counters) (s : State) : (s.count f).tx = s.tx := rfl
@[simp] theorem State.count_inp (f : Counters → Counters) (s : State) : (s.count f).inp = s.inp := rfl
@[simp] theorem State.count_within (f : Counters → Counters) (s : State) : (s.count f).within = s.within := rfl
@[simp] theorem State.count_drv (f : Counters → Counters) (s : State) : (s.count f).drv = s.drv := rfl
@[simp] theorem State.count_tap (f : Counters → Counters) (s : State) : (s.count f).tap = s.tap := rfl
@[simp] theorem State.count_lineIn (f : Counters → Counters) (s : State) : (s.count f).lineIn = s.lineIn := rfl
@[simp] theorem State.count_cfgIn (f : Counters → Counters) (s : State) : (s.count f).cfgIn = s.cfgIn := rfl
@[simp] theorem State.count_contactIn (f : Counters → Counters) (s : State) : (s.count f).contactIn = s.contactIn := rfl
@[simp] theorem State.count_pending (f : Counters → Counters) (s : State) : (s.count f).pending = s.pending := rfl
@[simp] theorem State.count_cnt (f : Counters → Counters) (s : State) : (s.count f).cnt = f s.cnt := rfl

/-! ### The roster -/

@[simp] theorem State.setMember_power (n : StationNo) (r : Member) (s : State) : (s.setMember n r).power = s.power := rfl
@[simp] theorem State.setMember_strap (n : StationNo) (r : Member) (s : State) : (s.setMember n r).strap = s.strap := rfl
@[simp] theorem State.setMember_tapSelectLow (n : StationNo) (r : Member) (s : State) : (s.setMember n r).tapSelectLow = s.tapSelectLow := rfl
@[simp] theorem State.setMember_inputPins (n : StationNo) (r : Member) (s : State) : (s.setMember n r).inputPins = s.inputPins := rfl
@[simp] theorem State.setMember_ctl (n : StationNo) (r : Member) (s : State) : (s.setMember n r).ctl = s.ctl := rfl
@[simp] theorem State.setMember_ldr (n : StationNo) (r : Member) (s : State) : (s.setMember n r).ldr = s.ldr := rfl
@[simp] theorem State.setMember_eng (n : StationNo) (r : Member) (s : State) : (s.setMember n r).eng = s.eng := rfl
@[simp] theorem State.setMember_line (n : StationNo) (r : Member) (s : State) : (s.setMember n r).line = s.line := rfl
@[simp] theorem State.setMember_trk (n : StationNo) (r : Member) (s : State) : (s.setMember n r).trk = s.trk := rfl
@[simp] theorem State.setMember_rx (n : StationNo) (r : Member) (s : State) : (s.setMember n r).rx = s.rx := rfl
@[simp] theorem State.setMember_tx (n : StationNo) (r : Member) (s : State) : (s.setMember n r).tx = s.tx := rfl
@[simp] theorem State.setMember_inp (n : StationNo) (r : Member) (s : State) : (s.setMember n r).inp = s.inp := rfl
@[simp] theorem State.setMember_within (n : StationNo) (r : Member) (s : State) : (s.setMember n r).within = s.within := rfl
@[simp] theorem State.setMember_drv (n : StationNo) (r : Member) (s : State) : (s.setMember n r).drv = s.drv := rfl
@[simp] theorem State.setMember_tap (n : StationNo) (r : Member) (s : State) : (s.setMember n r).tap = s.tap := rfl
@[simp] theorem State.setMember_cnt (n : StationNo) (r : Member) (s : State) : (s.setMember n r).cnt = s.cnt := rfl
@[simp] theorem State.setMember_lineIn (n : StationNo) (r : Member) (s : State) : (s.setMember n r).lineIn = s.lineIn := rfl
@[simp] theorem State.setMember_cfgIn (n : StationNo) (r : Member) (s : State) : (s.setMember n r).cfgIn = s.cfgIn := rfl
@[simp] theorem State.setMember_contactIn (n : StationNo) (r : Member) (s : State) : (s.setMember n r).contactIn = s.contactIn := rfl
@[simp] theorem State.setMember_pending (n : StationNo) (r : Member) (s : State) : (s.setMember n r).pending = s.pending := rfl
@[simp] theorem State.setMember_img_table (n : StationNo) (r : Member) (s : State) : (s.setMember n r).img.table = s.img.table := rfl
@[simp] theorem State.setMember_img_pool (n : StationNo) (r : Member) (s : State) : (s.setMember n r).img.pool = s.img.pool := rfl
@[simp] theorem State.setMember_img_repackPending (n : StationNo) (r : Member) (s : State) : (s.setMember n r).img.repackPending = s.img.repackPending := rfl
@[simp] theorem State.setMember_img_own (n : StationNo) (r : Member) (s : State) : (s.setMember n r).img.own = s.img.own := rfl

/-! ### The outputs -/

@[simp] theorem State.setOutputs_power (s : State) : (s.setOutputs).power = s.power := rfl
@[simp] theorem State.setOutputs_strap (s : State) : (s.setOutputs).strap = s.strap := rfl
@[simp] theorem State.setOutputs_tapSelectLow (s : State) : (s.setOutputs).tapSelectLow = s.tapSelectLow := rfl
@[simp] theorem State.setOutputs_inputPins (s : State) : (s.setOutputs).inputPins = s.inputPins := rfl
@[simp] theorem State.setOutputs_ctl (s : State) : (s.setOutputs).ctl = s.ctl := rfl
@[simp] theorem State.setOutputs_ldr (s : State) : (s.setOutputs).ldr = s.ldr := rfl
@[simp] theorem State.setOutputs_img (s : State) : (s.setOutputs).img = s.img := rfl
@[simp] theorem State.setOutputs_eng (s : State) : (s.setOutputs).eng = s.eng := rfl
@[simp] theorem State.setOutputs_line (s : State) : (s.setOutputs).line = s.line := rfl
@[simp] theorem State.setOutputs_trk (s : State) : (s.setOutputs).trk = s.trk := rfl
@[simp] theorem State.setOutputs_rx (s : State) : (s.setOutputs).rx = s.rx := rfl
@[simp] theorem State.setOutputs_tx (s : State) : (s.setOutputs).tx = s.tx := rfl
@[simp] theorem State.setOutputs_inp (s : State) : (s.setOutputs).inp = s.inp := rfl
@[simp] theorem State.setOutputs_within (s : State) : (s.setOutputs).within = s.within := rfl
@[simp] theorem State.setOutputs_tap (s : State) : (s.setOutputs).tap = s.tap := rfl
@[simp] theorem State.setOutputs_cnt (s : State) : (s.setOutputs).cnt = s.cnt := rfl
@[simp] theorem State.setOutputs_lineIn (s : State) : (s.setOutputs).lineIn = s.lineIn := rfl
@[simp] theorem State.setOutputs_cfgIn (s : State) : (s.setOutputs).cfgIn = s.cfgIn := rfl
@[simp] theorem State.setOutputs_contactIn (s : State) : (s.setOutputs).contactIn = s.contactIn := rfl
@[simp] theorem State.setOutputs_pending (s : State) : (s.setOutputs).pending = s.pending := rfl
@[simp] theorem State.setOutputs_held (s : State) : s.setOutputs.drv.held = s.drv.held := rfl
@[simp] theorem State.setOutputs_levels (s : State) : s.setOutputs.drv.levels = outputLevels s.ctl.station s.ldr.config s.drv.held := rfl

/-! ### The tap -/

@[simp] theorem State.result_power (r : TapResult) (s : State) : (s.result r).power = s.power := rfl
@[simp] theorem State.result_strap (r : TapResult) (s : State) : (s.result r).strap = s.strap := rfl
@[simp] theorem State.result_tapSelectLow (r : TapResult) (s : State) : (s.result r).tapSelectLow = s.tapSelectLow := rfl
@[simp] theorem State.result_inputPins (r : TapResult) (s : State) : (s.result r).inputPins = s.inputPins := rfl
@[simp] theorem State.result_ctl (r : TapResult) (s : State) : (s.result r).ctl = s.ctl := rfl
@[simp] theorem State.result_ldr (r : TapResult) (s : State) : (s.result r).ldr = s.ldr := rfl
@[simp] theorem State.result_img (r : TapResult) (s : State) : (s.result r).img = s.img := rfl
@[simp] theorem State.result_eng (r : TapResult) (s : State) : (s.result r).eng = s.eng := rfl
@[simp] theorem State.result_line (r : TapResult) (s : State) : (s.result r).line = s.line := rfl
@[simp] theorem State.result_trk (r : TapResult) (s : State) : (s.result r).trk = s.trk := rfl
@[simp] theorem State.result_rx (r : TapResult) (s : State) : (s.result r).rx = s.rx := rfl
@[simp] theorem State.result_tx (r : TapResult) (s : State) : (s.result r).tx = s.tx := rfl
@[simp] theorem State.result_inp (r : TapResult) (s : State) : (s.result r).inp = s.inp := rfl
@[simp] theorem State.result_within (r : TapResult) (s : State) : (s.result r).within = s.within := rfl
@[simp] theorem State.result_drv (r : TapResult) (s : State) : (s.result r).drv = s.drv := rfl
@[simp] theorem State.result_cnt (r : TapResult) (s : State) : (s.result r).cnt = s.cnt := rfl
@[simp] theorem State.result_lineIn (r : TapResult) (s : State) : (s.result r).lineIn = s.lineIn := rfl
@[simp] theorem State.result_cfgIn (r : TapResult) (s : State) : (s.result r).cfgIn = s.cfgIn := rfl
@[simp] theorem State.result_contactIn (r : TapResult) (s : State) : (s.result r).contactIn = s.contactIn := rfl
@[simp] theorem State.result_pending (r : TapResult) (s : State) : (s.result r).pending = s.pending := rfl
@[simp] theorem State.result_tap_trans (r : TapResult) (s : State) : (s.result r).tap.trans = s.tap.trans := rfl
@[simp] theorem State.result_tap_staged (r : TapResult) (s : State) : (s.result r).tap.staged = s.tap.staged := rfl
@[simp] theorem State.result_tap_published (r : TapResult) (s : State) : (s.result r).tap.published = s.tap.published := rfl
@[simp] theorem State.result_tap_queue (r : TapResult) (s : State) : (s.result r).tap.queue = s.tap.queue := rfl
@[simp] theorem State.result_tap_lossMark (r : TapResult) (s : State) : (s.result r).tap.lossMark = s.tap.lossMark := rfl
@[simp] theorem State.result_tap_lostEvents (r : TapResult) (s : State) : (s.result r).tap.lostEvents = s.tap.lostEvents := rfl
@[simp] theorem State.result_tap_status (r : TapResult) (s : State) : (s.result r).tap.status = s.tap.status := rfl
@[simp] theorem State.result_tap_dout (r : TapResult) (s : State) : (s.result r).tap.dout = s.tap.dout := rfl
@[simp] theorem State.result_lastResult (r : TapResult) (s : State) : (s.result r).tap.lastResult = r := rfl
@[simp] theorem State.selectHigh_power (s : State) : (s.selectHigh).power = s.power := rfl
@[simp] theorem State.selectHigh_strap (s : State) : (s.selectHigh).strap = s.strap := rfl
@[simp] theorem State.selectHigh_inputPins (s : State) : (s.selectHigh).inputPins = s.inputPins := rfl
@[simp] theorem State.selectHigh_ctl (s : State) : (s.selectHigh).ctl = s.ctl := rfl
@[simp] theorem State.selectHigh_ldr (s : State) : (s.selectHigh).ldr = s.ldr := rfl
@[simp] theorem State.selectHigh_img (s : State) : (s.selectHigh).img = s.img := rfl
@[simp] theorem State.selectHigh_eng (s : State) : (s.selectHigh).eng = s.eng := rfl
@[simp] theorem State.selectHigh_line (s : State) : (s.selectHigh).line = s.line := rfl
@[simp] theorem State.selectHigh_trk (s : State) : (s.selectHigh).trk = s.trk := rfl
@[simp] theorem State.selectHigh_rx (s : State) : (s.selectHigh).rx = s.rx := rfl
@[simp] theorem State.selectHigh_tx (s : State) : (s.selectHigh).tx = s.tx := rfl
@[simp] theorem State.selectHigh_inp (s : State) : (s.selectHigh).inp = s.inp := rfl
@[simp] theorem State.selectHigh_within (s : State) : (s.selectHigh).within = s.within := rfl
@[simp] theorem State.selectHigh_drv (s : State) : (s.selectHigh).drv = s.drv := rfl
@[simp] theorem State.selectHigh_tap (s : State) : (s.selectHigh).tap = s.tap := rfl
@[simp] theorem State.selectHigh_cnt (s : State) : (s.selectHigh).cnt = s.cnt := rfl
@[simp] theorem State.selectHigh_lineIn (s : State) : (s.selectHigh).lineIn = s.lineIn := rfl
@[simp] theorem State.selectHigh_cfgIn (s : State) : (s.selectHigh).cfgIn = s.cfgIn := rfl
@[simp] theorem State.selectHigh_contactIn (s : State) : (s.selectHigh).contactIn = s.contactIn := rfl
@[simp] theorem State.selectHigh_pending (s : State) : (s.selectHigh).pending = s.pending := rfl
@[simp] theorem State.selectHigh_tapSelectLow (s : State) : s.selectHigh.tapSelectLow = false := rfl

/-! ### The command queue -/

@[simp] theorem State.enqueue_power (cs : List Instr) (s : State) : (s.enqueue cs).power = s.power := rfl
@[simp] theorem State.enqueue_strap (cs : List Instr) (s : State) : (s.enqueue cs).strap = s.strap := rfl
@[simp] theorem State.enqueue_tapSelectLow (cs : List Instr) (s : State) : (s.enqueue cs).tapSelectLow = s.tapSelectLow := rfl
@[simp] theorem State.enqueue_inputPins (cs : List Instr) (s : State) : (s.enqueue cs).inputPins = s.inputPins := rfl
@[simp] theorem State.enqueue_ctl (cs : List Instr) (s : State) : (s.enqueue cs).ctl = s.ctl := rfl
@[simp] theorem State.enqueue_ldr (cs : List Instr) (s : State) : (s.enqueue cs).ldr = s.ldr := rfl
@[simp] theorem State.enqueue_img (cs : List Instr) (s : State) : (s.enqueue cs).img = s.img := rfl
@[simp] theorem State.enqueue_eng (cs : List Instr) (s : State) : (s.enqueue cs).eng = s.eng := rfl
@[simp] theorem State.enqueue_line (cs : List Instr) (s : State) : (s.enqueue cs).line = s.line := rfl
@[simp] theorem State.enqueue_trk (cs : List Instr) (s : State) : (s.enqueue cs).trk = s.trk := rfl
@[simp] theorem State.enqueue_rx (cs : List Instr) (s : State) : (s.enqueue cs).rx = s.rx := rfl
@[simp] theorem State.enqueue_tx (cs : List Instr) (s : State) : (s.enqueue cs).tx = s.tx := rfl
@[simp] theorem State.enqueue_inp (cs : List Instr) (s : State) : (s.enqueue cs).inp = s.inp := rfl
@[simp] theorem State.enqueue_within (cs : List Instr) (s : State) : (s.enqueue cs).within = s.within := rfl
@[simp] theorem State.enqueue_drv (cs : List Instr) (s : State) : (s.enqueue cs).drv = s.drv := rfl
@[simp] theorem State.enqueue_tap (cs : List Instr) (s : State) : (s.enqueue cs).tap = s.tap := rfl
@[simp] theorem State.enqueue_cnt (cs : List Instr) (s : State) : (s.enqueue cs).cnt = s.cnt := rfl
@[simp] theorem State.enqueue_lineIn (cs : List Instr) (s : State) : (s.enqueue cs).lineIn = s.lineIn := rfl
@[simp] theorem State.enqueue_cfgIn (cs : List Instr) (s : State) : (s.enqueue cs).cfgIn = s.cfgIn := rfl
@[simp] theorem State.enqueue_contactIn (cs : List Instr) (s : State) : (s.enqueue cs).contactIn = s.contactIn := rfl
@[simp] theorem State.enqueue_pending (cs : List Instr) (s : State) : (s.enqueue cs).pending = s.pending ++ cs := rfl

/-! ### The own frame and the receiver -/

@[simp] theorem State.buildFrame_power (cfg : Configuration) (kind : FrameKind) (s : State) : (s.buildFrame cfg kind).power = s.power := rfl
@[simp] theorem State.buildFrame_strap (cfg : Configuration) (kind : FrameKind) (s : State) : (s.buildFrame cfg kind).strap = s.strap := rfl
@[simp] theorem State.buildFrame_tapSelectLow (cfg : Configuration) (kind : FrameKind) (s : State) : (s.buildFrame cfg kind).tapSelectLow = s.tapSelectLow := rfl
@[simp] theorem State.buildFrame_inputPins (cfg : Configuration) (kind : FrameKind) (s : State) : (s.buildFrame cfg kind).inputPins = s.inputPins := rfl
@[simp] theorem State.buildFrame_ctl (cfg : Configuration) (kind : FrameKind) (s : State) : (s.buildFrame cfg kind).ctl = s.ctl := rfl
@[simp] theorem State.buildFrame_ldr (cfg : Configuration) (kind : FrameKind) (s : State) : (s.buildFrame cfg kind).ldr = s.ldr := rfl
@[simp] theorem State.buildFrame_img (cfg : Configuration) (kind : FrameKind) (s : State) : (s.buildFrame cfg kind).img = s.img := rfl
@[simp] theorem State.buildFrame_eng (cfg : Configuration) (kind : FrameKind) (s : State) : (s.buildFrame cfg kind).eng = s.eng := rfl
@[simp] theorem State.buildFrame_line (cfg : Configuration) (kind : FrameKind) (s : State) : (s.buildFrame cfg kind).line = s.line := rfl
@[simp] theorem State.buildFrame_trk (cfg : Configuration) (kind : FrameKind) (s : State) : (s.buildFrame cfg kind).trk = s.trk := rfl
@[simp] theorem State.buildFrame_rx (cfg : Configuration) (kind : FrameKind) (s : State) : (s.buildFrame cfg kind).rx = s.rx := rfl
@[simp] theorem State.buildFrame_inp (cfg : Configuration) (kind : FrameKind) (s : State) : (s.buildFrame cfg kind).inp = s.inp := rfl
@[simp] theorem State.buildFrame_within (cfg : Configuration) (kind : FrameKind) (s : State) : (s.buildFrame cfg kind).within = s.within := rfl
@[simp] theorem State.buildFrame_drv (cfg : Configuration) (kind : FrameKind) (s : State) : (s.buildFrame cfg kind).drv = s.drv := rfl
@[simp] theorem State.buildFrame_tap (cfg : Configuration) (kind : FrameKind) (s : State) : (s.buildFrame cfg kind).tap = s.tap := rfl
@[simp] theorem State.buildFrame_cnt (cfg : Configuration) (kind : FrameKind) (s : State) : (s.buildFrame cfg kind).cnt = s.cnt := rfl
@[simp] theorem State.buildFrame_lineIn (cfg : Configuration) (kind : FrameKind) (s : State) : (s.buildFrame cfg kind).lineIn = s.lineIn := rfl
@[simp] theorem State.buildFrame_cfgIn (cfg : Configuration) (kind : FrameKind) (s : State) : (s.buildFrame cfg kind).cfgIn = s.cfgIn := rfl
@[simp] theorem State.buildFrame_contactIn (cfg : Configuration) (kind : FrameKind) (s : State) : (s.buildFrame cfg kind).contactIn = s.contactIn := rfl
@[simp] theorem State.buildFrame_pending (cfg : Configuration) (kind : FrameKind) (s : State) : (s.buildFrame cfg kind).pending = s.pending := rfl
@[simp] theorem State.buildFrame_attempt (cfg : Configuration) (kind : FrameKind) (s : State) : (s.buildFrame cfg kind).tx.attempt = s.tx.attempt := rfl
@[simp] theorem State.buildFrame_kind (cfg : Configuration) (kind : FrameKind) (s : State) : (s.buildFrame cfg kind).tx.kind = some kind := rfl
@[simp] theorem State.buildFrame_seq (cfg : Configuration) (kind : FrameKind) (s : State) : (s.buildFrame cfg kind).tx.seq = s.tx.seq := rfl
@[simp] theorem State.buildFrame_losses (cfg : Configuration) (kind : FrameKind) (s : State) : (s.buildFrame cfg kind).tx.losses = s.tx.losses := rfl
@[simp] theorem State.startReception_power (own : Bool) (s : State) : (s.startReception own).power = s.power := rfl
@[simp] theorem State.startReception_strap (own : Bool) (s : State) : (s.startReception own).strap = s.strap := rfl
@[simp] theorem State.startReception_tapSelectLow (own : Bool) (s : State) : (s.startReception own).tapSelectLow = s.tapSelectLow := rfl
@[simp] theorem State.startReception_inputPins (own : Bool) (s : State) : (s.startReception own).inputPins = s.inputPins := rfl
@[simp] theorem State.startReception_ctl (own : Bool) (s : State) : (s.startReception own).ctl = s.ctl := rfl
@[simp] theorem State.startReception_ldr (own : Bool) (s : State) : (s.startReception own).ldr = s.ldr := rfl
@[simp] theorem State.startReception_img (own : Bool) (s : State) : (s.startReception own).img = s.img := rfl
@[simp] theorem State.startReception_eng (own : Bool) (s : State) : (s.startReception own).eng = s.eng := rfl
@[simp] theorem State.startReception_line (own : Bool) (s : State) : (s.startReception own).line = s.line := rfl
@[simp] theorem State.startReception_trk (own : Bool) (s : State) : (s.startReception own).trk = s.trk := rfl
@[simp] theorem State.startReception_tx (own : Bool) (s : State) : (s.startReception own).tx = s.tx := rfl
@[simp] theorem State.startReception_inp (own : Bool) (s : State) : (s.startReception own).inp = s.inp := rfl
@[simp] theorem State.startReception_within (own : Bool) (s : State) : (s.startReception own).within = s.within := rfl
@[simp] theorem State.startReception_drv (own : Bool) (s : State) : (s.startReception own).drv = s.drv := rfl
@[simp] theorem State.startReception_tap (own : Bool) (s : State) : (s.startReception own).tap = s.tap := rfl
@[simp] theorem State.startReception_cnt (own : Bool) (s : State) : (s.startReception own).cnt = s.cnt := rfl
@[simp] theorem State.startReception_lineIn (own : Bool) (s : State) : (s.startReception own).lineIn = s.lineIn := rfl
@[simp] theorem State.startReception_cfgIn (own : Bool) (s : State) : (s.startReception own).cfgIn = s.cfgIn := rfl
@[simp] theorem State.startReception_contactIn (own : Bool) (s : State) : (s.startReception own).contactIn = s.contactIn := rfl
@[simp] theorem State.startReception_pending (own : Bool) (s : State) : (s.startReception own).pending = s.pending := rfl
@[simp] theorem State.startReception_ownMark (own : Bool) (s : State) : (s.startReception own).rx.ownMark = own := rfl
@[simp] theorem State.startReception_state (own : Bool) (s : State) : (s.startReception own).rx.state = .receiving := rfl
@[simp] theorem State.startReception_startWalk (own : Bool) (s : State) : (s.startReception own).rx.startWalk = s.trk.walk := rfl

/-! ### The round tracker -/

@[simp] theorem State.restartTimer_power (s : State) : (s.restartTimer).power = s.power := rfl
@[simp] theorem State.restartTimer_strap (s : State) : (s.restartTimer).strap = s.strap := rfl
@[simp] theorem State.restartTimer_tapSelectLow (s : State) : (s.restartTimer).tapSelectLow = s.tapSelectLow := rfl
@[simp] theorem State.restartTimer_inputPins (s : State) : (s.restartTimer).inputPins = s.inputPins := rfl
@[simp] theorem State.restartTimer_ctl (s : State) : (s.restartTimer).ctl = s.ctl := rfl
@[simp] theorem State.restartTimer_ldr (s : State) : (s.restartTimer).ldr = s.ldr := rfl
@[simp] theorem State.restartTimer_img (s : State) : (s.restartTimer).img = s.img := rfl
@[simp] theorem State.restartTimer_eng (s : State) : (s.restartTimer).eng = s.eng := rfl
@[simp] theorem State.restartTimer_line (s : State) : (s.restartTimer).line = s.line := rfl
@[simp] theorem State.restartTimer_rx (s : State) : (s.restartTimer).rx = s.rx := rfl
@[simp] theorem State.restartTimer_tx (s : State) : (s.restartTimer).tx = s.tx := rfl
@[simp] theorem State.restartTimer_inp (s : State) : (s.restartTimer).inp = s.inp := rfl
@[simp] theorem State.restartTimer_within (s : State) : (s.restartTimer).within = s.within := rfl
@[simp] theorem State.restartTimer_drv (s : State) : (s.restartTimer).drv = s.drv := rfl
@[simp] theorem State.restartTimer_tap (s : State) : (s.restartTimer).tap = s.tap := rfl
@[simp] theorem State.restartTimer_cnt (s : State) : (s.restartTimer).cnt = s.cnt := rfl
@[simp] theorem State.restartTimer_lineIn (s : State) : (s.restartTimer).lineIn = s.lineIn := rfl
@[simp] theorem State.restartTimer_cfgIn (s : State) : (s.restartTimer).cfgIn = s.cfgIn := rfl
@[simp] theorem State.restartTimer_contactIn (s : State) : (s.restartTimer).contactIn = s.contactIn := rfl
@[simp] theorem State.restartTimer_pending (s : State) : (s.restartTimer).pending = s.pending := rfl
@[simp] theorem State.restartTimer_walk (s : State) : s.restartTimer.trk.walk = s.trk.walk := rfl
@[simp] theorem State.restartTimer_round (s : State) : s.restartTimer.trk.round = s.trk.round := rfl
@[simp] theorem State.releaseMark_power (s : State) : (s.releaseMark).power = s.power := rfl
@[simp] theorem State.releaseMark_strap (s : State) : (s.releaseMark).strap = s.strap := rfl
@[simp] theorem State.releaseMark_tapSelectLow (s : State) : (s.releaseMark).tapSelectLow = s.tapSelectLow := rfl
@[simp] theorem State.releaseMark_inputPins (s : State) : (s.releaseMark).inputPins = s.inputPins := rfl
@[simp] theorem State.releaseMark_ctl (s : State) : (s.releaseMark).ctl = s.ctl := rfl
@[simp] theorem State.releaseMark_ldr (s : State) : (s.releaseMark).ldr = s.ldr := rfl
@[simp] theorem State.releaseMark_img (s : State) : (s.releaseMark).img = s.img := rfl
@[simp] theorem State.releaseMark_eng (s : State) : (s.releaseMark).eng = s.eng := rfl
@[simp] theorem State.releaseMark_trk (s : State) : (s.releaseMark).trk = s.trk := rfl
@[simp] theorem State.releaseMark_rx (s : State) : (s.releaseMark).rx = s.rx := rfl
@[simp] theorem State.releaseMark_tx (s : State) : (s.releaseMark).tx = s.tx := rfl
@[simp] theorem State.releaseMark_inp (s : State) : (s.releaseMark).inp = s.inp := rfl
@[simp] theorem State.releaseMark_within (s : State) : (s.releaseMark).within = s.within := rfl
@[simp] theorem State.releaseMark_drv (s : State) : (s.releaseMark).drv = s.drv := rfl
@[simp] theorem State.releaseMark_tap (s : State) : (s.releaseMark).tap = s.tap := rfl
@[simp] theorem State.releaseMark_cnt (s : State) : (s.releaseMark).cnt = s.cnt := rfl
@[simp] theorem State.releaseMark_lineIn (s : State) : (s.releaseMark).lineIn = s.lineIn := rfl
@[simp] theorem State.releaseMark_cfgIn (s : State) : (s.releaseMark).cfgIn = s.cfgIn := rfl
@[simp] theorem State.releaseMark_contactIn (s : State) : (s.releaseMark).contactIn = s.contactIn := rfl
@[simp] theorem State.releaseMark_pending (s : State) : (s.releaseMark).pending = s.pending := rfl
@[simp] theorem State.releaseMark_mark (s : State) : s.releaseMark.line.mark = none := rfl

/-! ### The sender -/

@[simp] theorem Sender.settle_attempt (t : Sender) : t.settle.attempt = .idle := rfl
@[simp] theorem Sender.settle_kind (t : Sender) : t.settle.kind = none := rfl
@[simp] theorem Sender.settle_seq (t : Sender) : t.settle.seq = t.seq := rfl
@[simp] theorem Sender.settle_losses (t : Sender) : t.settle.losses = t.losses := rfl

/-! ### The station controller -/

@[simp] theorem Controller.enter_station (c : Controller) (st : Station) : (c.enter st).station = st := rfl
@[simp] theorem Controller.enter_txHeld (c : Controller) (st : Station) : (c.enter st).txHeld = c.txHeld := rfl
@[simp] theorem Controller.enter_restarts (c : Controller) (st : Station) : (c.enter st).restarts = c.restarts := rfl
@[simp] theorem Controller.enter_lastStop (c : Controller) (st : Station) :
    (c.enter st).lastStop = st.fault.or c.lastStop := rfl
@[simp] theorem State.moveTo_power (st : Station) (s : State) : (s.moveTo st).power = s.power := rfl
@[simp] theorem State.moveTo_strap (st : Station) (s : State) : (s.moveTo st).strap = s.strap := rfl
@[simp] theorem State.moveTo_tapSelectLow (st : Station) (s : State) : (s.moveTo st).tapSelectLow = s.tapSelectLow := rfl
@[simp] theorem State.moveTo_inputPins (st : Station) (s : State) : (s.moveTo st).inputPins = s.inputPins := rfl
@[simp] theorem State.moveTo_ldr (st : Station) (s : State) : (s.moveTo st).ldr = s.ldr := rfl
@[simp] theorem State.moveTo_img (st : Station) (s : State) : (s.moveTo st).img = s.img := rfl
@[simp] theorem State.moveTo_eng (st : Station) (s : State) : (s.moveTo st).eng = s.eng := rfl
@[simp] theorem State.moveTo_line (st : Station) (s : State) : (s.moveTo st).line = s.line := rfl
@[simp] theorem State.moveTo_trk (st : Station) (s : State) : (s.moveTo st).trk = s.trk := rfl
@[simp] theorem State.moveTo_rx (st : Station) (s : State) : (s.moveTo st).rx = s.rx := rfl
@[simp] theorem State.moveTo_inp (st : Station) (s : State) : (s.moveTo st).inp = s.inp := rfl
@[simp] theorem State.moveTo_within (st : Station) (s : State) : (s.moveTo st).within = s.within := rfl
@[simp] theorem State.moveTo_drv (st : Station) (s : State) : (s.moveTo st).drv = s.drv := rfl
@[simp] theorem State.moveTo_tap (st : Station) (s : State) : (s.moveTo st).tap = s.tap := rfl
@[simp] theorem State.moveTo_cnt (st : Station) (s : State) : (s.moveTo st).cnt = s.cnt := rfl
@[simp] theorem State.moveTo_lineIn (st : Station) (s : State) : (s.moveTo st).lineIn = s.lineIn := rfl
@[simp] theorem State.moveTo_cfgIn (st : Station) (s : State) : (s.moveTo st).cfgIn = s.cfgIn := rfl
@[simp] theorem State.moveTo_contactIn (st : Station) (s : State) : (s.moveTo st).contactIn = s.contactIn := rfl
@[simp] theorem State.moveTo_pending (st : Station) (s : State) : (s.moveTo st).pending = s.pending := rfl
@[simp] theorem State.moveTo_ctl (st : Station) (s : State) : (s.moveTo st).ctl = s.ctl.enter st := rfl
@[simp] theorem State.moveTo_tx (st : Station) (s : State) : (s.moveTo st).tx = s.tx.enter st := rfl
@[simp] theorem State.clearLosses_power (s : State) : (s.clearLosses).power = s.power := rfl
@[simp] theorem State.clearLosses_strap (s : State) : (s.clearLosses).strap = s.strap := rfl
@[simp] theorem State.clearLosses_tapSelectLow (s : State) : (s.clearLosses).tapSelectLow = s.tapSelectLow := rfl
@[simp] theorem State.clearLosses_inputPins (s : State) : (s.clearLosses).inputPins = s.inputPins := rfl
@[simp] theorem State.clearLosses_ctl (s : State) : (s.clearLosses).ctl = s.ctl := rfl
@[simp] theorem State.clearLosses_ldr (s : State) : (s.clearLosses).ldr = s.ldr := rfl
@[simp] theorem State.clearLosses_img (s : State) : (s.clearLosses).img = s.img := rfl
@[simp] theorem State.clearLosses_eng (s : State) : (s.clearLosses).eng = s.eng := rfl
@[simp] theorem State.clearLosses_line (s : State) : (s.clearLosses).line = s.line := rfl
@[simp] theorem State.clearLosses_trk (s : State) : (s.clearLosses).trk = s.trk := rfl
@[simp] theorem State.clearLosses_rx (s : State) : (s.clearLosses).rx = s.rx := rfl
@[simp] theorem State.clearLosses_inp (s : State) : (s.clearLosses).inp = s.inp := rfl
@[simp] theorem State.clearLosses_within (s : State) : (s.clearLosses).within = s.within := rfl
@[simp] theorem State.clearLosses_drv (s : State) : (s.clearLosses).drv = s.drv := rfl
@[simp] theorem State.clearLosses_tap (s : State) : (s.clearLosses).tap = s.tap := rfl
@[simp] theorem State.clearLosses_cnt (s : State) : (s.clearLosses).cnt = s.cnt := rfl
@[simp] theorem State.clearLosses_lineIn (s : State) : (s.clearLosses).lineIn = s.lineIn := rfl
@[simp] theorem State.clearLosses_cfgIn (s : State) : (s.clearLosses).cfgIn = s.cfgIn := rfl
@[simp] theorem State.clearLosses_contactIn (s : State) : (s.clearLosses).contactIn = s.contactIn := rfl
@[simp] theorem State.clearLosses_pending (s : State) : (s.clearLosses).pending = s.pending := rfl
@[simp] theorem State.clearLosses_attempt (s : State) : s.clearLosses.tx.attempt = s.tx.attempt := rfl
@[simp] theorem State.clearLosses_kind (s : State) : s.clearLosses.tx.kind = s.tx.kind := rfl
@[simp] theorem State.clearLosses_buffer (s : State) : s.clearLosses.tx.buffer = s.tx.buffer := rfl
@[simp] theorem State.clearLosses_driven (s : State) : s.clearLosses.tx.driven = s.tx.driven := rfl
@[simp] theorem State.clearLosses_seq (s : State) : s.clearLosses.tx.seq = s.tx.seq := rfl
@[simp] theorem State.clearLosses_losses (s : State) : s.clearLosses.tx.losses = 0 := rfl
@[simp] theorem State.moveToListen_power (s : State) : (s.moveToListen).power = s.power := rfl
@[simp] theorem State.moveToListen_strap (s : State) : (s.moveToListen).strap = s.strap := rfl
@[simp] theorem State.moveToListen_tapSelectLow (s : State) : (s.moveToListen).tapSelectLow = s.tapSelectLow := rfl
@[simp] theorem State.moveToListen_inputPins (s : State) : (s.moveToListen).inputPins = s.inputPins := rfl
@[simp] theorem State.moveToListen_ldr (s : State) : (s.moveToListen).ldr = s.ldr := rfl
@[simp] theorem State.moveToListen_img (s : State) : (s.moveToListen).img = s.img := rfl
@[simp] theorem State.moveToListen_eng (s : State) : (s.moveToListen).eng = s.eng := rfl
@[simp] theorem State.moveToListen_line (s : State) : (s.moveToListen).line = s.line := rfl
@[simp] theorem State.moveToListen_trk (s : State) : (s.moveToListen).trk = s.trk := rfl
@[simp] theorem State.moveToListen_rx (s : State) : (s.moveToListen).rx = s.rx := rfl
@[simp] theorem State.moveToListen_inp (s : State) : (s.moveToListen).inp = s.inp := rfl
@[simp] theorem State.moveToListen_within (s : State) : (s.moveToListen).within = s.within := rfl
@[simp] theorem State.moveToListen_drv (s : State) : (s.moveToListen).drv = s.drv := rfl
@[simp] theorem State.moveToListen_tap (s : State) : (s.moveToListen).tap = s.tap := rfl
@[simp] theorem State.moveToListen_cnt (s : State) : (s.moveToListen).cnt = s.cnt := rfl
@[simp] theorem State.moveToListen_lineIn (s : State) : (s.moveToListen).lineIn = s.lineIn := rfl
@[simp] theorem State.moveToListen_cfgIn (s : State) : (s.moveToListen).cfgIn = s.cfgIn := rfl
@[simp] theorem State.moveToListen_contactIn (s : State) : (s.moveToListen).contactIn = s.contactIn := rfl
@[simp] theorem State.moveToListen_pending (s : State) : (s.moveToListen).pending = s.pending := rfl
@[simp] theorem State.moveToListen_ctl (s : State) : s.moveToListen.ctl = s.ctl.enter (.listen 0) := rfl

/-! ### The close's operations on the image and the terms -/

@[simp] theorem State.ageAll_power (cfg : Configuration) (cut : Option Cursor) (s : State) : (s.ageAll cfg cut).power = s.power := by simp only [State.ageAll]
@[simp] theorem State.ageAll_strap (cfg : Configuration) (cut : Option Cursor) (s : State) : (s.ageAll cfg cut).strap = s.strap := by simp only [State.ageAll]
@[simp] theorem State.ageAll_tapSelectLow (cfg : Configuration) (cut : Option Cursor) (s : State) : (s.ageAll cfg cut).tapSelectLow = s.tapSelectLow := by simp only [State.ageAll]
@[simp] theorem State.ageAll_inputPins (cfg : Configuration) (cut : Option Cursor) (s : State) : (s.ageAll cfg cut).inputPins = s.inputPins := by simp only [State.ageAll]
@[simp] theorem State.ageAll_ctl (cfg : Configuration) (cut : Option Cursor) (s : State) : (s.ageAll cfg cut).ctl = s.ctl := by simp only [State.ageAll]
@[simp] theorem State.ageAll_ldr (cfg : Configuration) (cut : Option Cursor) (s : State) : (s.ageAll cfg cut).ldr = s.ldr := by simp only [State.ageAll]
@[simp] theorem State.ageAll_eng (cfg : Configuration) (cut : Option Cursor) (s : State) : (s.ageAll cfg cut).eng = s.eng := by simp only [State.ageAll]
@[simp] theorem State.ageAll_line (cfg : Configuration) (cut : Option Cursor) (s : State) : (s.ageAll cfg cut).line = s.line := by simp only [State.ageAll]
@[simp] theorem State.ageAll_trk (cfg : Configuration) (cut : Option Cursor) (s : State) : (s.ageAll cfg cut).trk = s.trk := by simp only [State.ageAll]
@[simp] theorem State.ageAll_rx (cfg : Configuration) (cut : Option Cursor) (s : State) : (s.ageAll cfg cut).rx = s.rx := by simp only [State.ageAll]
@[simp] theorem State.ageAll_tx (cfg : Configuration) (cut : Option Cursor) (s : State) : (s.ageAll cfg cut).tx = s.tx := by simp only [State.ageAll]
@[simp] theorem State.ageAll_inp (cfg : Configuration) (cut : Option Cursor) (s : State) : (s.ageAll cfg cut).inp = s.inp := by simp only [State.ageAll]
@[simp] theorem State.ageAll_within (cfg : Configuration) (cut : Option Cursor) (s : State) : (s.ageAll cfg cut).within = s.within := by simp only [State.ageAll]
@[simp] theorem State.ageAll_drv (cfg : Configuration) (cut : Option Cursor) (s : State) : (s.ageAll cfg cut).drv = s.drv := by simp only [State.ageAll]
@[simp] theorem State.ageAll_tap (cfg : Configuration) (cut : Option Cursor) (s : State) : (s.ageAll cfg cut).tap = s.tap := by simp only [State.ageAll]
@[simp] theorem State.ageAll_cnt (cfg : Configuration) (cut : Option Cursor) (s : State) : (s.ageAll cfg cut).cnt = s.cnt := by simp only [State.ageAll]
@[simp] theorem State.ageAll_lineIn (cfg : Configuration) (cut : Option Cursor) (s : State) : (s.ageAll cfg cut).lineIn = s.lineIn := by simp only [State.ageAll]
@[simp] theorem State.ageAll_cfgIn (cfg : Configuration) (cut : Option Cursor) (s : State) : (s.ageAll cfg cut).cfgIn = s.cfgIn := by simp only [State.ageAll]
@[simp] theorem State.ageAll_contactIn (cfg : Configuration) (cut : Option Cursor) (s : State) : (s.ageAll cfg cut).contactIn = s.contactIn := by simp only [State.ageAll]
@[simp] theorem State.ageAll_pending (cfg : Configuration) (cut : Option Cursor) (s : State) : (s.ageAll cfg cut).pending = s.pending := by simp only [State.ageAll]
@[simp] theorem State.ageAll_img_table (cfg : Configuration) (cut : Option Cursor) (s : State) : (s.ageAll cfg cut).img.table = s.img.table := by simp only [State.ageAll]
@[simp] theorem State.ageAll_img_pool (cfg : Configuration) (cut : Option Cursor) (s : State) : (s.ageAll cfg cut).img.pool = s.img.pool := by simp only [State.ageAll]
@[simp] theorem State.ageAll_img_repackPending (cfg : Configuration) (cut : Option Cursor) (s : State) : (s.ageAll cfg cut).img.repackPending = s.img.repackPending := by simp only [State.ageAll]
@[simp] theorem State.ageAll_img_own (cfg : Configuration) (cut : Option Cursor) (s : State) : (s.ageAll cfg cut).img.own = s.img.own := by simp only [State.ageAll]
@[simp] theorem State.repack_power (cfg : Configuration) (s : State) : (s.repack cfg).power = s.power := by simp only [State.repack]
@[simp] theorem State.repack_strap (cfg : Configuration) (s : State) : (s.repack cfg).strap = s.strap := by simp only [State.repack]
@[simp] theorem State.repack_tapSelectLow (cfg : Configuration) (s : State) : (s.repack cfg).tapSelectLow = s.tapSelectLow := by simp only [State.repack]
@[simp] theorem State.repack_inputPins (cfg : Configuration) (s : State) : (s.repack cfg).inputPins = s.inputPins := by simp only [State.repack]
@[simp] theorem State.repack_ctl (cfg : Configuration) (s : State) : (s.repack cfg).ctl = s.ctl := by simp only [State.repack]
@[simp] theorem State.repack_ldr (cfg : Configuration) (s : State) : (s.repack cfg).ldr = s.ldr := by simp only [State.repack]
@[simp] theorem State.repack_eng (cfg : Configuration) (s : State) : (s.repack cfg).eng = s.eng := by simp only [State.repack]
@[simp] theorem State.repack_line (cfg : Configuration) (s : State) : (s.repack cfg).line = s.line := by simp only [State.repack]
@[simp] theorem State.repack_trk (cfg : Configuration) (s : State) : (s.repack cfg).trk = s.trk := by simp only [State.repack]
@[simp] theorem State.repack_rx (cfg : Configuration) (s : State) : (s.repack cfg).rx = s.rx := by simp only [State.repack]
@[simp] theorem State.repack_tx (cfg : Configuration) (s : State) : (s.repack cfg).tx = s.tx := by simp only [State.repack]
@[simp] theorem State.repack_inp (cfg : Configuration) (s : State) : (s.repack cfg).inp = s.inp := by simp only [State.repack]
@[simp] theorem State.repack_within (cfg : Configuration) (s : State) : (s.repack cfg).within = s.within := by simp only [State.repack]
@[simp] theorem State.repack_drv (cfg : Configuration) (s : State) : (s.repack cfg).drv = s.drv := by simp only [State.repack]
@[simp] theorem State.repack_tap (cfg : Configuration) (s : State) : (s.repack cfg).tap = s.tap := by simp only [State.repack]
@[simp] theorem State.repack_cnt (cfg : Configuration) (s : State) : (s.repack cfg).cnt = s.cnt := by simp only [State.repack]
@[simp] theorem State.repack_lineIn (cfg : Configuration) (s : State) : (s.repack cfg).lineIn = s.lineIn := by simp only [State.repack]
@[simp] theorem State.repack_cfgIn (cfg : Configuration) (s : State) : (s.repack cfg).cfgIn = s.cfgIn := by simp only [State.repack]
@[simp] theorem State.repack_contactIn (cfg : Configuration) (s : State) : (s.repack cfg).contactIn = s.contactIn := by simp only [State.repack]
@[simp] theorem State.repack_pending (cfg : Configuration) (s : State) : (s.repack cfg).pending = s.pending := by simp only [State.repack]
@[simp] theorem State.repack_img_own (cfg : Configuration) (s : State) : (s.repack cfg).img.own = s.img.own := by simp only [State.repack]
@[simp] theorem State.repack_img_table (cfg : Configuration) (s : State) : (s.repack cfg).img.table = rebuildTable cfg s.img.roster := by simp only [State.repack]
@[simp] theorem State.repack_img_repackPending (cfg : Configuration) (s : State) : (s.repack cfg).img.repackPending = false := by simp only [State.repack]
@[simp] theorem State.evaluateTerms_power (cfg : Configuration) (snapshot : BitVec 64) (s : State) : (s.evaluateTerms cfg snapshot).power = s.power := by simp only [State.evaluateTerms]
@[simp] theorem State.evaluateTerms_strap (cfg : Configuration) (snapshot : BitVec 64) (s : State) : (s.evaluateTerms cfg snapshot).strap = s.strap := by simp only [State.evaluateTerms]
@[simp] theorem State.evaluateTerms_tapSelectLow (cfg : Configuration) (snapshot : BitVec 64) (s : State) : (s.evaluateTerms cfg snapshot).tapSelectLow = s.tapSelectLow := by simp only [State.evaluateTerms]
@[simp] theorem State.evaluateTerms_inputPins (cfg : Configuration) (snapshot : BitVec 64) (s : State) : (s.evaluateTerms cfg snapshot).inputPins = s.inputPins := by simp only [State.evaluateTerms]
@[simp] theorem State.evaluateTerms_ctl (cfg : Configuration) (snapshot : BitVec 64) (s : State) : (s.evaluateTerms cfg snapshot).ctl = s.ctl := by simp only [State.evaluateTerms]
@[simp] theorem State.evaluateTerms_ldr (cfg : Configuration) (snapshot : BitVec 64) (s : State) : (s.evaluateTerms cfg snapshot).ldr = s.ldr := by simp only [State.evaluateTerms]
@[simp] theorem State.evaluateTerms_line (cfg : Configuration) (snapshot : BitVec 64) (s : State) : (s.evaluateTerms cfg snapshot).line = s.line := by simp only [State.evaluateTerms]
@[simp] theorem State.evaluateTerms_trk (cfg : Configuration) (snapshot : BitVec 64) (s : State) : (s.evaluateTerms cfg snapshot).trk = s.trk := by simp only [State.evaluateTerms]
@[simp] theorem State.evaluateTerms_rx (cfg : Configuration) (snapshot : BitVec 64) (s : State) : (s.evaluateTerms cfg snapshot).rx = s.rx := by simp only [State.evaluateTerms]
@[simp] theorem State.evaluateTerms_tx (cfg : Configuration) (snapshot : BitVec 64) (s : State) : (s.evaluateTerms cfg snapshot).tx = s.tx := by simp only [State.evaluateTerms]
@[simp] theorem State.evaluateTerms_inp (cfg : Configuration) (snapshot : BitVec 64) (s : State) : (s.evaluateTerms cfg snapshot).inp = s.inp := by simp only [State.evaluateTerms]
@[simp] theorem State.evaluateTerms_within (cfg : Configuration) (snapshot : BitVec 64) (s : State) : (s.evaluateTerms cfg snapshot).within = s.within := by simp only [State.evaluateTerms]
@[simp] theorem State.evaluateTerms_tap (cfg : Configuration) (snapshot : BitVec 64) (s : State) : (s.evaluateTerms cfg snapshot).tap = s.tap := by simp only [State.evaluateTerms]
@[simp] theorem State.evaluateTerms_cnt (cfg : Configuration) (snapshot : BitVec 64) (s : State) : (s.evaluateTerms cfg snapshot).cnt = s.cnt := by simp only [State.evaluateTerms]
@[simp] theorem State.evaluateTerms_lineIn (cfg : Configuration) (snapshot : BitVec 64) (s : State) : (s.evaluateTerms cfg snapshot).lineIn = s.lineIn := by simp only [State.evaluateTerms]
@[simp] theorem State.evaluateTerms_cfgIn (cfg : Configuration) (snapshot : BitVec 64) (s : State) : (s.evaluateTerms cfg snapshot).cfgIn = s.cfgIn := by simp only [State.evaluateTerms]
@[simp] theorem State.evaluateTerms_contactIn (cfg : Configuration) (snapshot : BitVec 64) (s : State) : (s.evaluateTerms cfg snapshot).contactIn = s.contactIn := by simp only [State.evaluateTerms]
@[simp] theorem State.evaluateTerms_pending (cfg : Configuration) (snapshot : BitVec 64) (s : State) : (s.evaluateTerms cfg snapshot).pending = s.pending := by simp only [State.evaluateTerms]
@[simp] theorem State.evaluateTerms_img_roster (cfg : Configuration) (snapshot : BitVec 64) (s : State) : (s.evaluateTerms cfg snapshot).img.roster = s.img.roster := by simp only [State.evaluateTerms]
@[simp] theorem State.evaluateTerms_img_table (cfg : Configuration) (snapshot : BitVec 64) (s : State) : (s.evaluateTerms cfg snapshot).img.table = s.img.table := by simp only [State.evaluateTerms]
@[simp] theorem State.evaluateTerms_img_pool (cfg : Configuration) (snapshot : BitVec 64) (s : State) : (s.evaluateTerms cfg snapshot).img.pool = s.img.pool := by simp only [State.evaluateTerms]
@[simp] theorem State.evaluateTerms_img_repackPending (cfg : Configuration) (snapshot : BitVec 64) (s : State) : (s.evaluateTerms cfg snapshot).img.repackPending = s.img.repackPending := by simp only [State.evaluateTerms]
@[simp] theorem State.evaluateTerms_terms (cfg : Configuration) (snapshot : BitVec 64) (s : State) : (s.evaluateTerms cfg snapshot).eng.terms = evaluate cfg snapshot s.img s.eng.terms := by simp only [State.evaluateTerms]
@[simp] theorem State.evaluateTerms_levels (cfg : Configuration) (snapshot : BitVec 64) (s : State) : (s.evaluateTerms cfg snapshot).drv.levels = s.drv.levels := by simp only [State.evaluateTerms]

/-! ### The inputs -/

@[simp] theorem State.takeLevels_power (cfg : Configuration) (inputs : Vector InputState 16) (s : State) : (s.takeLevels cfg inputs).power = s.power := by simp only [State.takeLevels]
@[simp] theorem State.takeLevels_strap (cfg : Configuration) (inputs : Vector InputState 16) (s : State) : (s.takeLevels cfg inputs).strap = s.strap := by simp only [State.takeLevels]
@[simp] theorem State.takeLevels_tapSelectLow (cfg : Configuration) (inputs : Vector InputState 16) (s : State) : (s.takeLevels cfg inputs).tapSelectLow = s.tapSelectLow := by simp only [State.takeLevels]
@[simp] theorem State.takeLevels_inputPins (cfg : Configuration) (inputs : Vector InputState 16) (s : State) : (s.takeLevels cfg inputs).inputPins = s.inputPins := by simp only [State.takeLevels]
@[simp] theorem State.takeLevels_ctl (cfg : Configuration) (inputs : Vector InputState 16) (s : State) : (s.takeLevels cfg inputs).ctl = s.ctl := by simp only [State.takeLevels]
@[simp] theorem State.takeLevels_ldr (cfg : Configuration) (inputs : Vector InputState 16) (s : State) : (s.takeLevels cfg inputs).ldr = s.ldr := by simp only [State.takeLevels]
@[simp] theorem State.takeLevels_eng (cfg : Configuration) (inputs : Vector InputState 16) (s : State) : (s.takeLevels cfg inputs).eng = s.eng := by simp only [State.takeLevels]
@[simp] theorem State.takeLevels_line (cfg : Configuration) (inputs : Vector InputState 16) (s : State) : (s.takeLevels cfg inputs).line = s.line := by simp only [State.takeLevels]
@[simp] theorem State.takeLevels_trk (cfg : Configuration) (inputs : Vector InputState 16) (s : State) : (s.takeLevels cfg inputs).trk = s.trk := by simp only [State.takeLevels]
@[simp] theorem State.takeLevels_rx (cfg : Configuration) (inputs : Vector InputState 16) (s : State) : (s.takeLevels cfg inputs).rx = s.rx := by simp only [State.takeLevels]
@[simp] theorem State.takeLevels_tx (cfg : Configuration) (inputs : Vector InputState 16) (s : State) : (s.takeLevels cfg inputs).tx = s.tx := by simp only [State.takeLevels]
@[simp] theorem State.takeLevels_drv (cfg : Configuration) (inputs : Vector InputState 16) (s : State) : (s.takeLevels cfg inputs).drv = s.drv := by simp only [State.takeLevels]
@[simp] theorem State.takeLevels_tap (cfg : Configuration) (inputs : Vector InputState 16) (s : State) : (s.takeLevels cfg inputs).tap = s.tap := by simp only [State.takeLevels]
@[simp] theorem State.takeLevels_cnt (cfg : Configuration) (inputs : Vector InputState 16) (s : State) : (s.takeLevels cfg inputs).cnt = s.cnt := by simp only [State.takeLevels]
@[simp] theorem State.takeLevels_lineIn (cfg : Configuration) (inputs : Vector InputState 16) (s : State) : (s.takeLevels cfg inputs).lineIn = s.lineIn := by simp only [State.takeLevels]
@[simp] theorem State.takeLevels_cfgIn (cfg : Configuration) (inputs : Vector InputState 16) (s : State) : (s.takeLevels cfg inputs).cfgIn = s.cfgIn := by simp only [State.takeLevels]
@[simp] theorem State.takeLevels_contactIn (cfg : Configuration) (inputs : Vector InputState 16) (s : State) : (s.takeLevels cfg inputs).contactIn = s.contactIn := by simp only [State.takeLevels]
@[simp] theorem State.takeLevels_pending (cfg : Configuration) (inputs : Vector InputState 16) (s : State) : (s.takeLevels cfg inputs).pending = s.pending := by simp only [State.takeLevels]
@[simp] theorem State.takeLevels_img_roster (cfg : Configuration) (inputs : Vector InputState 16) (s : State) : (s.takeLevels cfg inputs).img.roster = s.img.roster := by simp only [State.takeLevels]
@[simp] theorem State.takeLevels_img_table (cfg : Configuration) (inputs : Vector InputState 16) (s : State) : (s.takeLevels cfg inputs).img.table = s.img.table := by simp only [State.takeLevels]
@[simp] theorem State.takeLevels_img_pool (cfg : Configuration) (inputs : Vector InputState 16) (s : State) : (s.takeLevels cfg inputs).img.pool = s.img.pool := by simp only [State.takeLevels]
@[simp] theorem State.takeLevels_img_repackPending (cfg : Configuration) (inputs : Vector InputState 16) (s : State) : (s.takeLevels cfg inputs).img.repackPending = s.img.repackPending := by simp only [State.takeLevels]
@[simp] theorem State.takeLevels_within (cfg : Configuration) (inputs : Vector InputState 16) (s : State) : (s.takeLevels cfg inputs).within = none := by simp only [State.takeLevels]

/-! ### The open transaction -/

@[simp] theorem State.transact_power (o : Opened) (clocks : Nat) (s : State) : (s.transact o clocks).power = s.power := rfl
@[simp] theorem State.transact_strap (o : Opened) (clocks : Nat) (s : State) : (s.transact o clocks).strap = s.strap := rfl
@[simp] theorem State.transact_tapSelectLow (o : Opened) (clocks : Nat) (s : State) : (s.transact o clocks).tapSelectLow = s.tapSelectLow := rfl
@[simp] theorem State.transact_inputPins (o : Opened) (clocks : Nat) (s : State) : (s.transact o clocks).inputPins = s.inputPins := rfl
@[simp] theorem State.transact_ctl (o : Opened) (clocks : Nat) (s : State) : (s.transact o clocks).ctl = s.ctl := rfl
@[simp] theorem State.transact_ldr (o : Opened) (clocks : Nat) (s : State) : (s.transact o clocks).ldr = s.ldr := rfl
@[simp] theorem State.transact_img (o : Opened) (clocks : Nat) (s : State) : (s.transact o clocks).img = s.img := rfl
@[simp] theorem State.transact_eng (o : Opened) (clocks : Nat) (s : State) : (s.transact o clocks).eng = s.eng := rfl
@[simp] theorem State.transact_line (o : Opened) (clocks : Nat) (s : State) : (s.transact o clocks).line = s.line := rfl
@[simp] theorem State.transact_trk (o : Opened) (clocks : Nat) (s : State) : (s.transact o clocks).trk = s.trk := rfl
@[simp] theorem State.transact_rx (o : Opened) (clocks : Nat) (s : State) : (s.transact o clocks).rx = s.rx := rfl
@[simp] theorem State.transact_tx (o : Opened) (clocks : Nat) (s : State) : (s.transact o clocks).tx = s.tx := rfl
@[simp] theorem State.transact_inp (o : Opened) (clocks : Nat) (s : State) : (s.transact o clocks).inp = s.inp := rfl
@[simp] theorem State.transact_within (o : Opened) (clocks : Nat) (s : State) : (s.transact o clocks).within = s.within := rfl
@[simp] theorem State.transact_drv (o : Opened) (clocks : Nat) (s : State) : (s.transact o clocks).drv = s.drv := rfl
@[simp] theorem State.transact_cnt (o : Opened) (clocks : Nat) (s : State) : (s.transact o clocks).cnt = s.cnt := rfl
@[simp] theorem State.transact_lineIn (o : Opened) (clocks : Nat) (s : State) : (s.transact o clocks).lineIn = s.lineIn := rfl
@[simp] theorem State.transact_cfgIn (o : Opened) (clocks : Nat) (s : State) : (s.transact o clocks).cfgIn = s.cfgIn := rfl
@[simp] theorem State.transact_contactIn (o : Opened) (clocks : Nat) (s : State) : (s.transact o clocks).contactIn = s.contactIn := rfl
@[simp] theorem State.transact_pending (o : Opened) (clocks : Nat) (s : State) : (s.transact o clocks).pending = s.pending := rfl
@[simp] theorem State.transact_tap_staged (o : Opened) (clocks : Nat) (s : State) : (s.transact o clocks).tap.staged = s.tap.staged := rfl
@[simp] theorem State.transact_tap_published (o : Opened) (clocks : Nat) (s : State) : (s.transact o clocks).tap.published = s.tap.published := rfl
@[simp] theorem State.transact_tap_queue (o : Opened) (clocks : Nat) (s : State) : (s.transact o clocks).tap.queue = s.tap.queue := rfl
@[simp] theorem State.transact_tap_lossMark (o : Opened) (clocks : Nat) (s : State) : (s.transact o clocks).tap.lossMark = s.tap.lossMark := rfl
@[simp] theorem State.transact_tap_lastResult (o : Opened) (clocks : Nat) (s : State) : (s.transact o clocks).tap.lastResult = s.tap.lastResult := rfl
@[simp] theorem State.transact_tap_lostEvents (o : Opened) (clocks : Nat) (s : State) : (s.transact o clocks).tap.lostEvents = s.tap.lostEvents := rfl
@[simp] theorem State.transact_tap_status (o : Opened) (clocks : Nat) (s : State) : (s.transact o clocks).tap.status = s.tap.status := rfl
@[simp] theorem State.transact_trans (o : Opened) (clocks : Nat) (s : State) : (s.transact o clocks).tap.trans = .opened o := rfl
@[simp] theorem State.transact_dout (o : Opened) (clocks : Nat) (s : State) : (s.transact o clocks).tap.dout = o.shifted s.tap.status clocks := rfl

/-! ### The entry to LOADING -/

@[simp] theorem Loader.begin_config (again : Bool) (strap : Strap) : (Loader.begin again strap).config = none := by
  cases strap <;> rfl
@[simp] theorem Loader.begin_buffer (again : Bool) (strap : Strap) : (Loader.begin again strap).buffer = [] := by
  cases strap <;> rfl
@[simp] theorem State.cleared_strap (s : State) : s.cleared.strap = s.strap := rfl
@[simp] theorem State.cleared_tapSelectLow (s : State) : s.cleared.tapSelectLow = s.tapSelectLow := rfl
@[simp] theorem State.cleared_inputPins (s : State) : s.cleared.inputPins = s.inputPins := rfl
@[simp] theorem State.cleared_lineIn (s : State) : s.cleared.lineIn = s.lineIn := rfl
@[simp] theorem State.cleared_cfgIn (s : State) : s.cleared.cfgIn = s.cfgIn := rfl
@[simp] theorem State.cleared_contactIn (s : State) : s.cleared.contactIn = s.contactIn := rfl
@[simp] theorem State.cleared_pending (s : State) : s.cleared.pending = s.pending := rfl
@[simp] theorem State.cleared_power (s : State) : s.cleared.power = .running := rfl
@[simp] theorem State.cleared_ctl (s : State) : s.cleared.ctl = State.reset.ctl := rfl
@[simp] theorem State.cleared_ldr (s : State) : s.cleared.ldr = State.reset.ldr := rfl
@[simp] theorem State.cleared_img (s : State) : s.cleared.img = State.reset.img := rfl
@[simp] theorem State.cleared_eng (s : State) : s.cleared.eng = State.reset.eng := rfl
@[simp] theorem State.cleared_line (s : State) : s.cleared.line = State.reset.line := rfl
@[simp] theorem State.cleared_trk (s : State) : s.cleared.trk = State.reset.trk := rfl
@[simp] theorem State.cleared_rx (s : State) : s.cleared.rx = State.reset.rx := rfl
@[simp] theorem State.cleared_tx (s : State) : s.cleared.tx = State.reset.tx := rfl
@[simp] theorem State.cleared_inp (s : State) : s.cleared.inp = State.reset.inp := rfl
@[simp] theorem State.cleared_within (s : State) : s.cleared.within = State.reset.within := rfl
@[simp] theorem State.cleared_drv (s : State) : s.cleared.drv = State.reset.drv := rfl
@[simp] theorem State.cleared_tap (s : State) : s.cleared.tap = State.reset.tap := rfl
@[simp] theorem State.cleared_cnt (s : State) : s.cleared.cnt = State.reset.cnt := rfl

end Sys2Proof.Machine
end

