-- ==== Sys2Proof/Laws/Ops.lean ====
section
/-! SUPPORT. What each shared operation can do, said once: the provers cite these instead of unfolding the operation. -/

namespace Sys2Proof.Machine

/-! ### The event queue (R163) -/

@[simp] theorem Tap.place_trans (t : Tap) (e : Event) : (t.place e).trans = t.trans := by
  unfold Tap.place; split <;> rfl
@[simp] theorem Tap.place_staged (t : Tap) (e : Event) : (t.place e).staged = t.staged := by
  unfold Tap.place; split <;> rfl
@[simp] theorem Tap.place_published (t : Tap) (e : Event) : (t.place e).published = t.published := by
  unfold Tap.place; split <;> rfl
@[simp] theorem Tap.place_lastResult (t : Tap) (e : Event) : (t.place e).lastResult = t.lastResult := by
  unfold Tap.place; split <;> rfl
@[simp] theorem Tap.place_status (t : Tap) (e : Event) : (t.place e).status = t.status := by
  unfold Tap.place; split <;> rfl
@[simp] theorem Tap.place_dout (t : Tap) (e : Event) : (t.place e).dout = t.dout := by
  unfold Tap.place; split <;> rfl

/-- An event placed in a queue with room becomes the newest entry and takes the loss mark. -/
theorem Tap.place_of_room (t : Tap) (e : Event) (h : t.queue.length < Config.queueRoom) :
    t.place e = { t with queue := t.queue ++ [{ e with afterLoss := t.lossMark }], lossMark := false } := by
  unfold Tap.place; rw [if_pos h]

/-- An event that meets a full queue is dropped and counted. -/
theorem Tap.place_of_full (t : Tap) (e : Event) (h : ¬ t.queue.length < Config.queueRoom) :
    t.place e = { t with lostEvents := bump16 t.lostEvents, lossMark := true } := by
  unfold Tap.place; rw [if_neg h]

/-- Placing an event leaves the entries before it where they were. -/
theorem Tap.place_queue_grows (t : Tap) (e : Event) : t.queue <+: (t.place e).queue := by
  unfold Tap.place; split <;> simp

theorem Tap.place_queue_room (t : Tap) (e : Event) (h : t.queue.length ≤ Config.queueRoom) :
    (t.place e).queue.length ≤ Config.queueRoom := by
  unfold Tap.place; split
  · simp only [List.length_append, List.length_singleton]; omega
  · exact h

theorem bump16_le (n : Nat) : bump16 n ≤ 65535 := Nat.min_le_right _ _

theorem add8_le (n k : Nat) : add8 n k ≤ 255 := Nat.min_le_right _ _

theorem Tap.place_lostEvents_le (t : Tap) (e : Event) (h : t.lostEvents ≤ 65535) : (t.place e).lostEvents ≤ 65535 := by
  unfold Tap.place; split
  · exact h
  · exact bump16_le _

/-- Everything a post can do: nothing where the mask leaves the kind out, one placed event otherwise. -/
theorem State.post_cases (kind : EventKind) (subject detail : Nat) (s : State) :
    (s.allows kind = false ∧ s.post kind subject detail = s) ∨
      (s.allows kind = true ∧
        s.post kind subject detail =
          { s with
            tap := s.tap.place
              { kind := kind, subject := byteOf subject, stamp := s.trk.round, detail := BitVec.ofNat 10 detail,
                afterLoss := false } }) := by
  unfold State.post
  cases h : s.allows kind <;> simp

@[simp] theorem State.post_power (kind : EventKind) (subject detail : Nat) (s : State) : (s.post kind subject detail).power = s.power := by
  unfold State.post; split <;> rfl
@[simp] theorem State.post_strap (kind : EventKind) (subject detail : Nat) (s : State) : (s.post kind subject detail).strap = s.strap := by
  unfold State.post; split <;> rfl
@[simp] theorem State.post_tapSelectLow (kind : EventKind) (subject detail : Nat) (s : State) : (s.post kind subject detail).tapSelectLow = s.tapSelectLow := by
  unfold State.post; split <;> rfl
@[simp] theorem State.post_inputPins (kind : EventKind) (subject detail : Nat) (s : State) : (s.post kind subject detail).inputPins = s.inputPins := by
  unfold State.post; split <;> rfl
@[simp] theorem State.post_ctl (kind : EventKind) (subject detail : Nat) (s : State) : (s.post kind subject detail).ctl = s.ctl := by
  unfold State.post; split <;> rfl
@[simp] theorem State.post_ldr (kind : EventKind) (subject detail : Nat) (s : State) : (s.post kind subject detail).ldr = s.ldr := by
  unfold State.post; split <;> rfl
@[simp] theorem State.post_img (kind : EventKind) (subject detail : Nat) (s : State) : (s.post kind subject detail).img = s.img := by
  unfold State.post; split <;> rfl
@[simp] theorem State.post_eng (kind : EventKind) (subject detail : Nat) (s : State) : (s.post kind subject detail).eng = s.eng := by
  unfold State.post; split <;> rfl
@[simp] theorem State.post_line (kind : EventKind) (subject detail : Nat) (s : State) : (s.post kind subject detail).line = s.line := by
  unfold State.post; split <;> rfl
@[simp] theorem State.post_trk (kind : EventKind) (subject detail : Nat) (s : State) : (s.post kind subject detail).trk = s.trk := by
  unfold State.post; split <;> rfl
@[simp] theorem State.post_rx (kind : EventKind) (subject detail : Nat) (s : State) : (s.post kind subject detail).rx = s.rx := by
  unfold State.post; split <;> rfl
@[simp] theorem State.post_tx (kind : EventKind) (subject detail : Nat) (s : State) : (s.post kind subject detail).tx = s.tx := by
  unfold State.post; split <;> rfl
@[simp] theorem State.post_inp (kind : EventKind) (subject detail : Nat) (s : State) : (s.post kind subject detail).inp = s.inp := by
  unfold State.post; split <;> rfl
@[simp] theorem State.post_within (kind : EventKind) (subject detail : Nat) (s : State) : (s.post kind subject detail).within = s.within := by
  unfold State.post; split <;> rfl
@[simp] theorem State.post_drv (kind : EventKind) (subject detail : Nat) (s : State) : (s.post kind subject detail).drv = s.drv := by
  unfold State.post; split <;> rfl
@[simp] theorem State.post_cnt (kind : EventKind) (subject detail : Nat) (s : State) : (s.post kind subject detail).cnt = s.cnt := by
  unfold State.post; split <;> rfl
@[simp] theorem State.post_lineIn (kind : EventKind) (subject detail : Nat) (s : State) : (s.post kind subject detail).lineIn = s.lineIn := by
  unfold State.post; split <;> rfl
@[simp] theorem State.post_cfgIn (kind : EventKind) (subject detail : Nat) (s : State) : (s.post kind subject detail).cfgIn = s.cfgIn := by
  unfold State.post; split <;> rfl
@[simp] theorem State.post_contactIn (kind : EventKind) (subject detail : Nat) (s : State) : (s.post kind subject detail).contactIn = s.contactIn := by
  unfold State.post; split <;> rfl
@[simp] theorem State.post_pending (kind : EventKind) (subject detail : Nat) (s : State) : (s.post kind subject detail).pending = s.pending := by
  unfold State.post; split <;> rfl
@[simp] theorem State.post_tap_trans (kind : EventKind) (subject detail : Nat) (s : State) : (s.post kind subject detail).tap.trans = s.tap.trans := by
  unfold State.post; split <;> simp
@[simp] theorem State.post_tap_staged (kind : EventKind) (subject detail : Nat) (s : State) : (s.post kind subject detail).tap.staged = s.tap.staged := by
  unfold State.post; split <;> simp
@[simp] theorem State.post_tap_published (kind : EventKind) (subject detail : Nat) (s : State) : (s.post kind subject detail).tap.published = s.tap.published := by
  unfold State.post; split <;> simp
@[simp] theorem State.post_tap_lastResult (kind : EventKind) (subject detail : Nat) (s : State) : (s.post kind subject detail).tap.lastResult = s.tap.lastResult := by
  unfold State.post; split <;> simp
@[simp] theorem State.post_tap_status (kind : EventKind) (subject detail : Nat) (s : State) : (s.post kind subject detail).tap.status = s.tap.status := by
  unfold State.post; split <;> simp
@[simp] theorem State.post_tap_dout (kind : EventKind) (subject detail : Nat) (s : State) : (s.post kind subject detail).tap.dout = s.tap.dout := by
  unfold State.post; split <;> simp

theorem State.post_queue_grows (kind : EventKind) (subject detail : Nat) (s : State) :
    s.tap.queue <+: (s.post kind subject detail).tap.queue := by
  unfold State.post; split
  · exact Tap.place_queue_grows _ _
  · exact List.prefix_refl _

theorem State.post_queue_room (kind : EventKind) (subject detail : Nat) (s : State)
    (h : s.tap.queue.length ≤ Config.queueRoom) :
    (s.post kind subject detail).tap.queue.length ≤ Config.queueRoom := by
  unfold State.post; split
  · exact Tap.place_queue_room _ _ h
  · exact h

theorem State.post_lostEvents_le (kind : EventKind) (subject detail : Nat) (s : State)
    (h : s.tap.lostEvents ≤ 65535) : (s.post kind subject detail).tap.lostEvents ≤ 65535 := by
  unfold State.post; split
  · exact Tap.place_lostEvents_le _ _ h
  · exact h

@[simp] theorem State.postAll_nil (s : State) : s.postAll [] = s := rfl

@[simp] theorem State.postAll_cons (e : EventKind × Nat × Nat) (es : List (EventKind × Nat × Nat)) (s : State) :
    s.postAll (e :: es) = (s.post e.1 e.2.1 e.2.2).postAll es := rfl

theorem State.postAll_append (es fs : List (EventKind × Nat × Nat)) (s : State) :
    s.postAll (es ++ fs) = (s.postAll es).postAll fs := by
  simp [State.postAll, List.foldl_append]

@[simp] theorem State.postAll_power (es : List (EventKind × Nat × Nat)) (s : State) : (s.postAll es).power = s.power := by
  induction es generalizing s with
  | nil => rfl
  | cons e es ih => simp [ih]
@[simp] theorem State.postAll_strap (es : List (EventKind × Nat × Nat)) (s : State) : (s.postAll es).strap = s.strap := by
  induction es generalizing s with
  | nil => rfl
  | cons e es ih => simp [ih]
@[simp] theorem State.postAll_tapSelectLow (es : List (EventKind × Nat × Nat)) (s : State) : (s.postAll es).tapSelectLow = s.tapSelectLow := by
  induction es generalizing s with
  | nil => rfl
  | cons e es ih => simp [ih]
@[simp] theorem State.postAll_inputPins (es : List (EventKind × Nat × Nat)) (s : State) : (s.postAll es).inputPins = s.inputPins := by
  induction es generalizing s with
  | nil => rfl
  | cons e es ih => simp [ih]
@[simp] theorem State.postAll_ctl (es : List (EventKind × Nat × Nat)) (s : State) : (s.postAll es).ctl = s.ctl := by
  induction es generalizing s with
  | nil => rfl
  | cons e es ih => simp [ih]
@[simp] theorem State.postAll_ldr (es : List (EventKind × Nat × Nat)) (s : State) : (s.postAll es).ldr = s.ldr := by
  induction es generalizing s with
  | nil => rfl
  | cons e es ih => simp [ih]
@[simp] theorem State.postAll_img (es : List (EventKind × Nat × Nat)) (s : State) : (s.postAll es).img = s.img := by
  induction es generalizing s with
  | nil => rfl
  | cons e es ih => simp [ih]
@[simp] theorem State.postAll_eng (es : List (EventKind × Nat × Nat)) (s : State) : (s.postAll es).eng = s.eng := by
  induction es generalizing s with
  | nil => rfl
  | cons e es ih => simp [ih]
@[simp] theorem State.postAll_line (es : List (EventKind × Nat × Nat)) (s : State) : (s.postAll es).line = s.line := by
  induction es generalizing s with
  | nil => rfl
  | cons e es ih => simp [ih]
@[simp] theorem State.postAll_trk (es : List (EventKind × Nat × Nat)) (s : State) : (s.postAll es).trk = s.trk := by
  induction es generalizing s with
  | nil => rfl
  | cons e es ih => simp [ih]
@[simp] theorem State.postAll_rx (es : List (EventKind × Nat × Nat)) (s : State) : (s.postAll es).rx = s.rx := by
  induction es generalizing s with
  | nil => rfl
  | cons e es ih => simp [ih]
@[simp] theorem State.postAll_tx (es : List (EventKind × Nat × Nat)) (s : State) : (s.postAll es).tx = s.tx := by
  induction es generalizing s with
  | nil => rfl
  | cons e es ih => simp [ih]
@[simp] theorem State.postAll_inp (es : List (EventKind × Nat × Nat)) (s : State) : (s.postAll es).inp = s.inp := by
  induction es generalizing s with
  | nil => rfl
  | cons e es ih => simp [ih]
@[simp] theorem State.postAll_within (es : List (EventKind × Nat × Nat)) (s : State) : (s.postAll es).within = s.within := by
  induction es generalizing s with
  | nil => rfl
  | cons e es ih => simp [ih]
@[simp] theorem State.postAll_drv (es : List (EventKind × Nat × Nat)) (s : State) : (s.postAll es).drv = s.drv := by
  induction es generalizing s with
  | nil => rfl
  | cons e es ih => simp [ih]
@[simp] theorem State.postAll_cnt (es : List (EventKind × Nat × Nat)) (s : State) : (s.postAll es).cnt = s.cnt := by
  induction es generalizing s with
  | nil => rfl
  | cons e es ih => simp [ih]
@[simp] theorem State.postAll_lineIn (es : List (EventKind × Nat × Nat)) (s : State) : (s.postAll es).lineIn = s.lineIn := by
  induction es generalizing s with
  | nil => rfl
  | cons e es ih => simp [ih]
@[simp] theorem State.postAll_cfgIn (es : List (EventKind × Nat × Nat)) (s : State) : (s.postAll es).cfgIn = s.cfgIn := by
  induction es generalizing s with
  | nil => rfl
  | cons e es ih => simp [ih]
@[simp] theorem State.postAll_contactIn (es : List (EventKind × Nat × Nat)) (s : State) : (s.postAll es).contactIn = s.contactIn := by
  induction es generalizing s with
  | nil => rfl
  | cons e es ih => simp [ih]
@[simp] theorem State.postAll_pending (es : List (EventKind × Nat × Nat)) (s : State) : (s.postAll es).pending = s.pending := by
  induction es generalizing s with
  | nil => rfl
  | cons e es ih => simp [ih]
@[simp] theorem State.postAll_tap_trans (es : List (EventKind × Nat × Nat)) (s : State) : (s.postAll es).tap.trans = s.tap.trans := by
  induction es generalizing s with
  | nil => rfl
  | cons e es ih => simp [ih]
@[simp] theorem State.postAll_tap_staged (es : List (EventKind × Nat × Nat)) (s : State) : (s.postAll es).tap.staged = s.tap.staged := by
  induction es generalizing s with
  | nil => rfl
  | cons e es ih => simp [ih]
@[simp] theorem State.postAll_tap_published (es : List (EventKind × Nat × Nat)) (s : State) : (s.postAll es).tap.published = s.tap.published := by
  induction es generalizing s with
  | nil => rfl
  | cons e es ih => simp [ih]
@[simp] theorem State.postAll_tap_lastResult (es : List (EventKind × Nat × Nat)) (s : State) : (s.postAll es).tap.lastResult = s.tap.lastResult := by
  induction es generalizing s with
  | nil => rfl
  | cons e es ih => simp [ih]
@[simp] theorem State.postAll_tap_status (es : List (EventKind × Nat × Nat)) (s : State) : (s.postAll es).tap.status = s.tap.status := by
  induction es generalizing s with
  | nil => rfl
  | cons e es ih => simp [ih]
@[simp] theorem State.postAll_tap_dout (es : List (EventKind × Nat × Nat)) (s : State) : (s.postAll es).tap.dout = s.tap.dout := by
  induction es generalizing s with
  | nil => rfl
  | cons e es ih => simp [ih]

theorem State.postAll_queue_grows (es : List (EventKind × Nat × Nat)) (s : State) :
    s.tap.queue <+: (s.postAll es).tap.queue := by
  induction es generalizing s with
  | nil => exact List.prefix_refl _
  | cons e es ih => exact (State.post_queue_grows _ _ _ s).trans (ih _)

theorem State.postAll_queue_room (es : List (EventKind × Nat × Nat)) (s : State)
    (h : s.tap.queue.length ≤ Config.queueRoom) : (s.postAll es).tap.queue.length ≤ Config.queueRoom := by
  induction es generalizing s with
  | nil => exact h
  | cons e es ih => exact ih _ (State.post_queue_room _ _ _ s h)

theorem State.postAll_lostEvents_le (es : List (EventKind × Nat × Nat)) (s : State) (h : s.tap.lostEvents ≤ 65535) :
    (s.postAll es).tap.lostEvents ≤ 65535 := by
  induction es generalizing s with
  | nil => exact h
  | cons e es ih => exact ih _ (State.post_lostEvents_le _ _ _ s h)


/-! ### A change of station state (R122, R139) -/

@[simp] theorem State.enter_power (st : Station) (detail : Nat) (s : State) : (s.enter st detail).power = s.power := by
  simp [State.enter]
@[simp] theorem State.enter_strap (st : Station) (detail : Nat) (s : State) : (s.enter st detail).strap = s.strap := by
  simp [State.enter]
@[simp] theorem State.enter_tapSelectLow (st : Station) (detail : Nat) (s : State) : (s.enter st detail).tapSelectLow = s.tapSelectLow := by
  simp [State.enter]
@[simp] theorem State.enter_inputPins (st : Station) (detail : Nat) (s : State) : (s.enter st detail).inputPins = s.inputPins := by
  simp [State.enter]
@[simp] theorem State.enter_ldr (st : Station) (detail : Nat) (s : State) : (s.enter st detail).ldr = s.ldr := by
  simp [State.enter]
@[simp] theorem State.enter_img (st : Station) (detail : Nat) (s : State) : (s.enter st detail).img = s.img := by
  simp [State.enter]
@[simp] theorem State.enter_eng (st : Station) (detail : Nat) (s : State) : (s.enter st detail).eng = s.eng := by
  simp [State.enter]
@[simp] theorem State.enter_line (st : Station) (detail : Nat) (s : State) : (s.enter st detail).line = s.line := by
  simp [State.enter]
@[simp] theorem State.enter_trk (st : Station) (detail : Nat) (s : State) : (s.enter st detail).trk = s.trk := by
  simp [State.enter]
@[simp] theorem State.enter_rx (st : Station) (detail : Nat) (s : State) : (s.enter st detail).rx = s.rx := by
  simp [State.enter]
@[simp] theorem State.enter_inp (st : Station) (detail : Nat) (s : State) : (s.enter st detail).inp = s.inp := by
  simp [State.enter]
@[simp] theorem State.enter_within (st : Station) (detail : Nat) (s : State) : (s.enter st detail).within = s.within := by
  simp [State.enter]
@[simp] theorem State.enter_cnt (st : Station) (detail : Nat) (s : State) : (s.enter st detail).cnt = s.cnt := by
  simp [State.enter]
@[simp] theorem State.enter_lineIn (st : Station) (detail : Nat) (s : State) : (s.enter st detail).lineIn = s.lineIn := by
  simp [State.enter]
@[simp] theorem State.enter_cfgIn (st : Station) (detail : Nat) (s : State) : (s.enter st detail).cfgIn = s.cfgIn := by
  simp [State.enter]
@[simp] theorem State.enter_contactIn (st : Station) (detail : Nat) (s : State) : (s.enter st detail).contactIn = s.contactIn := by
  simp [State.enter]
@[simp] theorem State.enter_pending (st : Station) (detail : Nat) (s : State) : (s.enter st detail).pending = s.pending := by
  simp [State.enter]
@[simp] theorem State.enter_tap_trans (st : Station) (detail : Nat) (s : State) : (s.enter st detail).tap.trans = s.tap.trans := by
  simp [State.enter]
@[simp] theorem State.enter_tap_staged (st : Station) (detail : Nat) (s : State) : (s.enter st detail).tap.staged = s.tap.staged := by
  simp [State.enter]
@[simp] theorem State.enter_tap_published (st : Station) (detail : Nat) (s : State) : (s.enter st detail).tap.published = s.tap.published := by
  simp [State.enter]
@[simp] theorem State.enter_tap_lastResult (st : Station) (detail : Nat) (s : State) : (s.enter st detail).tap.lastResult = s.tap.lastResult := by
  simp [State.enter]
@[simp] theorem State.enter_tap_status (st : Station) (detail : Nat) (s : State) : (s.enter st detail).tap.status = s.tap.status := by
  simp [State.enter]
@[simp] theorem State.enter_tap_dout (st : Station) (detail : Nat) (s : State) : (s.enter st detail).tap.dout = s.tap.dout := by
  simp [State.enter]
@[simp] theorem State.enter_held (st : Station) (detail : Nat) (s : State) : (s.enter st detail).drv.held = s.drv.held := by
  simp [State.enter]
@[simp] theorem State.enterListen_power (detail : Nat) (s : State) : (s.enterListen detail).power = s.power := by
  simp [State.enterListen]
@[simp] theorem State.enterListen_strap (detail : Nat) (s : State) : (s.enterListen detail).strap = s.strap := by
  simp [State.enterListen]
@[simp] theorem State.enterListen_tapSelectLow (detail : Nat) (s : State) : (s.enterListen detail).tapSelectLow = s.tapSelectLow := by
  simp [State.enterListen]
@[simp] theorem State.enterListen_inputPins (detail : Nat) (s : State) : (s.enterListen detail).inputPins = s.inputPins := by
  simp [State.enterListen]
@[simp] theorem State.enterListen_ldr (detail : Nat) (s : State) : (s.enterListen detail).ldr = s.ldr := by
  simp [State.enterListen]
@[simp] theorem State.enterListen_img (detail : Nat) (s : State) : (s.enterListen detail).img = s.img := by
  simp [State.enterListen]
@[simp] theorem State.enterListen_eng (detail : Nat) (s : State) : (s.enterListen detail).eng = s.eng := by
  simp [State.enterListen]
@[simp] theorem State.enterListen_line (detail : Nat) (s : State) : (s.enterListen detail).line = s.line := by
  simp [State.enterListen]
@[simp] theorem State.enterListen_trk (detail : Nat) (s : State) : (s.enterListen detail).trk = s.trk := by
  simp [State.enterListen]
@[simp] theorem State.enterListen_rx (detail : Nat) (s : State) : (s.enterListen detail).rx = s.rx := by
  simp [State.enterListen]
@[simp] theorem State.enterListen_inp (detail : Nat) (s : State) : (s.enterListen detail).inp = s.inp := by
  simp [State.enterListen]
@[simp] theorem State.enterListen_within (detail : Nat) (s : State) : (s.enterListen detail).within = s.within := by
  simp [State.enterListen]
@[simp] theorem State.enterListen_cnt (detail : Nat) (s : State) : (s.enterListen detail).cnt = s.cnt := by
  simp [State.enterListen]
@[simp] theorem State.enterListen_lineIn (detail : Nat) (s : State) : (s.enterListen detail).lineIn = s.lineIn := by
  simp [State.enterListen]
@[simp] theorem State.enterListen_cfgIn (detail : Nat) (s : State) : (s.enterListen detail).cfgIn = s.cfgIn := by
  simp [State.enterListen]
@[simp] theorem State.enterListen_contactIn (detail : Nat) (s : State) : (s.enterListen detail).contactIn = s.contactIn := by
  simp [State.enterListen]
@[simp] theorem State.enterListen_pending (detail : Nat) (s : State) : (s.enterListen detail).pending = s.pending := by
  simp [State.enterListen]
@[simp] theorem State.enterListen_tap_trans (detail : Nat) (s : State) : (s.enterListen detail).tap.trans = s.tap.trans := by
  simp [State.enterListen]
@[simp] theorem State.enterListen_tap_staged (detail : Nat) (s : State) : (s.enterListen detail).tap.staged = s.tap.staged := by
  simp [State.enterListen]
@[simp] theorem State.enterListen_tap_published (detail : Nat) (s : State) : (s.enterListen detail).tap.published = s.tap.published := by
  simp [State.enterListen]
@[simp] theorem State.enterListen_tap_lastResult (detail : Nat) (s : State) : (s.enterListen detail).tap.lastResult = s.tap.lastResult := by
  simp [State.enterListen]
@[simp] theorem State.enterListen_tap_status (detail : Nat) (s : State) : (s.enterListen detail).tap.status = s.tap.status := by
  simp [State.enterListen]
@[simp] theorem State.enterListen_tap_dout (detail : Nat) (s : State) : (s.enterListen detail).tap.dout = s.tap.dout := by
  simp [State.enterListen]
@[simp] theorem State.enterListen_held (detail : Nat) (s : State) : (s.enterListen detail).drv.held = s.drv.held := by
  simp [State.enterListen]
@[simp] theorem State.enterTxFault_power (s : State) : (s.enterTxFault).power = s.power := by
  simp [State.enterTxFault]
@[simp] theorem State.enterTxFault_strap (s : State) : (s.enterTxFault).strap = s.strap := by
  simp [State.enterTxFault]
@[simp] theorem State.enterTxFault_tapSelectLow (s : State) : (s.enterTxFault).tapSelectLow = s.tapSelectLow := by
  simp [State.enterTxFault]
@[simp] theorem State.enterTxFault_inputPins (s : State) : (s.enterTxFault).inputPins = s.inputPins := by
  simp [State.enterTxFault]
@[simp] theorem State.enterTxFault_ldr (s : State) : (s.enterTxFault).ldr = s.ldr := by
  simp [State.enterTxFault]
@[simp] theorem State.enterTxFault_img (s : State) : (s.enterTxFault).img = s.img := by
  simp [State.enterTxFault]
@[simp] theorem State.enterTxFault_eng (s : State) : (s.enterTxFault).eng = s.eng := by
  simp [State.enterTxFault]
@[simp] theorem State.enterTxFault_rx (s : State) : (s.enterTxFault).rx = s.rx := by
  simp [State.enterTxFault]
@[simp] theorem State.enterTxFault_inp (s : State) : (s.enterTxFault).inp = s.inp := by
  simp [State.enterTxFault]
@[simp] theorem State.enterTxFault_within (s : State) : (s.enterTxFault).within = s.within := by
  simp [State.enterTxFault]
@[simp] theorem State.enterTxFault_cnt (s : State) : (s.enterTxFault).cnt = s.cnt := by
  simp [State.enterTxFault]
@[simp] theorem State.enterTxFault_lineIn (s : State) : (s.enterTxFault).lineIn = s.lineIn := by
  simp [State.enterTxFault]
@[simp] theorem State.enterTxFault_cfgIn (s : State) : (s.enterTxFault).cfgIn = s.cfgIn := by
  simp [State.enterTxFault]
@[simp] theorem State.enterTxFault_contactIn (s : State) : (s.enterTxFault).contactIn = s.contactIn := by
  simp [State.enterTxFault]
@[simp] theorem State.enterTxFault_pending (s : State) : (s.enterTxFault).pending = s.pending := by
  simp [State.enterTxFault]
@[simp] theorem State.enterTxFault_tap_trans (s : State) : (s.enterTxFault).tap.trans = s.tap.trans := by
  simp [State.enterTxFault]
@[simp] theorem State.enterTxFault_tap_staged (s : State) : (s.enterTxFault).tap.staged = s.tap.staged := by
  simp [State.enterTxFault]
@[simp] theorem State.enterTxFault_tap_published (s : State) : (s.enterTxFault).tap.published = s.tap.published := by
  simp [State.enterTxFault]
@[simp] theorem State.enterTxFault_tap_lastResult (s : State) : (s.enterTxFault).tap.lastResult = s.tap.lastResult := by
  simp [State.enterTxFault]
@[simp] theorem State.enterTxFault_tap_status (s : State) : (s.enterTxFault).tap.status = s.tap.status := by
  simp [State.enterTxFault]
@[simp] theorem State.enterTxFault_tap_dout (s : State) : (s.enterTxFault).tap.dout = s.tap.dout := by
  simp [State.enterTxFault]
@[simp] theorem State.enterTxFault_held (s : State) : (s.enterTxFault).drv.held = s.drv.held := by
  simp [State.enterTxFault]

@[simp] theorem State.enter_ctl (st : Station) (detail : Nat) (s : State) :
    (s.enter st detail).ctl = s.ctl.enter st := by simp [State.enter]

@[simp] theorem State.enter_tx (st : Station) (detail : Nat) (s : State) :
    (s.enter st detail).tx = s.tx.enter st := by simp [State.enter]

/-- After a change of state the outputs stand at what R136 gives for the new state. -/
@[simp] theorem State.enter_levels (st : Station) (detail : Nat) (s : State) :
    (s.enter st detail).drv.levels = outputLevels st s.ldr.config s.drv.held := by simp [State.enter]

theorem State.enter_queue_grows (st : Station) (detail : Nat) (s : State) :
    s.tap.queue <+: (s.enter st detail).tap.queue := by
  simpa [State.enter] using
    State.post_queue_grows .state st.code detail (s.moveTo st)

@[simp] theorem State.enterListen_ctl (detail : Nat) (s : State) :
    (s.enterListen detail).ctl = s.ctl.enter (.listen 0) := by simp [State.enterListen]

@[simp] theorem State.enterListen_losses (detail : Nat) (s : State) : (s.enterListen detail).tx.losses = 0 := by
  simp [State.enterListen, Sender.enter, Sender.settle]

@[simp] theorem State.enterListen_levels (detail : Nat) (s : State) :
    (s.enterListen detail).drv.levels = outputLevels (.listen 0) s.ldr.config s.drv.held := by
  simp [State.enterListen]

@[simp] theorem State.enterTxFault_station (s : State) : s.enterTxFault.ctl.station = .lineFault .tx := by
  simp [State.enterTxFault]

@[simp] theorem State.enterTxFault_levels (s : State) :
    s.enterTxFault.drv.levels = outputLevels (.lineFault .tx) s.ldr.config s.drv.held := by simp [State.enterTxFault]


/-! ### The entry to LOADING -/

@[simp] theorem State.postLoading_power (detail : Nat) (s : State) : (s.postLoading detail).power = s.power := by
  simp [State.postLoading]
@[simp] theorem State.postLoading_strap (detail : Nat) (s : State) : (s.postLoading detail).strap = s.strap := by
  simp [State.postLoading]
@[simp] theorem State.postLoading_tapSelectLow (detail : Nat) (s : State) : (s.postLoading detail).tapSelectLow = s.tapSelectLow := by
  simp [State.postLoading]
@[simp] theorem State.postLoading_inputPins (detail : Nat) (s : State) : (s.postLoading detail).inputPins = s.inputPins := by
  simp [State.postLoading]
@[simp] theorem State.postLoading_ctl (detail : Nat) (s : State) : (s.postLoading detail).ctl = s.ctl := by
  simp [State.postLoading]
@[simp] theorem State.postLoading_ldr (detail : Nat) (s : State) : (s.postLoading detail).ldr = s.ldr := by
  simp [State.postLoading]
@[simp] theorem State.postLoading_img (detail : Nat) (s : State) : (s.postLoading detail).img = s.img := by
  simp [State.postLoading]
@[simp] theorem State.postLoading_eng (detail : Nat) (s : State) : (s.postLoading detail).eng = s.eng := by
  simp [State.postLoading]
@[simp] theorem State.postLoading_line (detail : Nat) (s : State) : (s.postLoading detail).line = s.line := by
  simp [State.postLoading]
@[simp] theorem State.postLoading_trk (detail : Nat) (s : State) : (s.postLoading detail).trk = s.trk := by
  simp [State.postLoading]
@[simp] theorem State.postLoading_rx (detail : Nat) (s : State) : (s.postLoading detail).rx = s.rx := by
  simp [State.postLoading]
@[simp] theorem State.postLoading_tx (detail : Nat) (s : State) : (s.postLoading detail).tx = s.tx := by
  simp [State.postLoading]
@[simp] theorem State.postLoading_inp (detail : Nat) (s : State) : (s.postLoading detail).inp = s.inp := by
  simp [State.postLoading]
@[simp] theorem State.postLoading_within (detail : Nat) (s : State) : (s.postLoading detail).within = s.within := by
  simp [State.postLoading]
@[simp] theorem State.postLoading_drv (detail : Nat) (s : State) : (s.postLoading detail).drv = s.drv := by
  simp [State.postLoading]
@[simp] theorem State.postLoading_cnt (detail : Nat) (s : State) : (s.postLoading detail).cnt = s.cnt := by
  simp [State.postLoading]
@[simp] theorem State.postLoading_lineIn (detail : Nat) (s : State) : (s.postLoading detail).lineIn = s.lineIn := by
  simp [State.postLoading]
@[simp] theorem State.postLoading_cfgIn (detail : Nat) (s : State) : (s.postLoading detail).cfgIn = s.cfgIn := by
  simp [State.postLoading]
@[simp] theorem State.postLoading_contactIn (detail : Nat) (s : State) : (s.postLoading detail).contactIn = s.contactIn := by
  simp [State.postLoading]
@[simp] theorem State.postLoading_pending (detail : Nat) (s : State) : (s.postLoading detail).pending = s.pending := by
  simp [State.postLoading]
@[simp] theorem State.postLoading_tap_trans (detail : Nat) (s : State) : (s.postLoading detail).tap.trans = s.tap.trans := by
  simp [State.postLoading]
@[simp] theorem State.postLoading_tap_staged (detail : Nat) (s : State) : (s.postLoading detail).tap.staged = s.tap.staged := by
  simp [State.postLoading]
@[simp] theorem State.postLoading_tap_published (detail : Nat) (s : State) : (s.postLoading detail).tap.published = s.tap.published := by
  simp [State.postLoading]
@[simp] theorem State.postLoading_tap_lastResult (detail : Nat) (s : State) : (s.postLoading detail).tap.lastResult = s.tap.lastResult := by
  simp [State.postLoading]
@[simp] theorem State.postLoading_tap_status (detail : Nat) (s : State) : (s.postLoading detail).tap.status = s.tap.status := by
  simp [State.postLoading]
@[simp] theorem State.postLoading_tap_dout (detail : Nat) (s : State) : (s.postLoading detail).tap.dout = s.tap.dout := by
  simp [State.postLoading]

/-! ### The end of a transaction (R156) -/

@[simp] theorem State.publish_power (s : State) : (s.publish).power = s.power := by
  unfold State.publish; split <;> rfl
@[simp] theorem State.publish_strap (s : State) : (s.publish).strap = s.strap := by
  unfold State.publish; split <;> rfl
@[simp] theorem State.publish_tapSelectLow (s : State) : (s.publish).tapSelectLow = s.tapSelectLow := by
  unfold State.publish; split <;> rfl
@[simp] theorem State.publish_inputPins (s : State) : (s.publish).inputPins = s.inputPins := by
  unfold State.publish; split <;> rfl
@[simp] theorem State.publish_ctl (s : State) : (s.publish).ctl = s.ctl := by
  unfold State.publish; split <;> rfl
@[simp] theorem State.publish_ldr (s : State) : (s.publish).ldr = s.ldr := by
  unfold State.publish; split <;> rfl
@[simp] theorem State.publish_img (s : State) : (s.publish).img = s.img := by
  unfold State.publish; split <;> rfl
@[simp] theorem State.publish_eng (s : State) : (s.publish).eng = s.eng := by
  unfold State.publish; split <;> rfl
@[simp] theorem State.publish_line (s : State) : (s.publish).line = s.line := by
  unfold State.publish; split <;> rfl
@[simp] theorem State.publish_trk (s : State) : (s.publish).trk = s.trk := by
  unfold State.publish; split <;> rfl
@[simp] theorem State.publish_rx (s : State) : (s.publish).rx = s.rx := by
  unfold State.publish; split <;> rfl
@[simp] theorem State.publish_tx (s : State) : (s.publish).tx = s.tx := by
  unfold State.publish; split <;> rfl
@[simp] theorem State.publish_inp (s : State) : (s.publish).inp = s.inp := by
  unfold State.publish; split <;> rfl
@[simp] theorem State.publish_within (s : State) : (s.publish).within = s.within := by
  unfold State.publish; split <;> rfl
@[simp] theorem State.publish_drv (s : State) : (s.publish).drv = s.drv := by
  unfold State.publish; split <;> rfl
@[simp] theorem State.publish_cnt (s : State) : (s.publish).cnt = s.cnt := by
  unfold State.publish; split <;> rfl
@[simp] theorem State.publish_lineIn (s : State) : (s.publish).lineIn = s.lineIn := by
  unfold State.publish; split <;> rfl
@[simp] theorem State.publish_cfgIn (s : State) : (s.publish).cfgIn = s.cfgIn := by
  unfold State.publish; split <;> rfl
@[simp] theorem State.publish_contactIn (s : State) : (s.publish).contactIn = s.contactIn := by
  unfold State.publish; split <;> rfl
@[simp] theorem State.publish_pending (s : State) : (s.publish).pending = s.pending := by
  unfold State.publish; split <;> rfl
@[simp] theorem State.publish_tap_trans (s : State) : s.publish.tap.trans = s.tap.trans := by
  unfold State.publish; split <;> rfl
@[simp] theorem State.publish_tap_queue (s : State) : s.publish.tap.queue = s.tap.queue := by
  unfold State.publish; split <;> rfl
@[simp] theorem State.publish_tap_lossMark (s : State) : s.publish.tap.lossMark = s.tap.lossMark := by
  unfold State.publish; split <;> rfl
@[simp] theorem State.publish_tap_lastResult (s : State) : s.publish.tap.lastResult = s.tap.lastResult := by
  unfold State.publish; split <;> rfl
@[simp] theorem State.publish_tap_lostEvents (s : State) : s.publish.tap.lostEvents = s.tap.lostEvents := by
  unfold State.publish; split <;> rfl
@[simp] theorem State.publish_tap_status (s : State) : s.publish.tap.status = s.tap.status := by
  unfold State.publish; split <;> rfl
@[simp] theorem State.publish_tap_dout (s : State) : s.publish.tap.dout = s.tap.dout := by
  unfold State.publish; split <;> rfl
@[simp] theorem State.endTransaction_power (s : State) : (s.endTransaction).power = s.power := by
  simp [State.endTransaction]
@[simp] theorem State.endTransaction_strap (s : State) : (s.endTransaction).strap = s.strap := by
  simp [State.endTransaction]
@[simp] theorem State.endTransaction_inputPins (s : State) : (s.endTransaction).inputPins = s.inputPins := by
  simp [State.endTransaction]
@[simp] theorem State.endTransaction_ctl (s : State) : (s.endTransaction).ctl = s.ctl := by
  simp [State.endTransaction]
@[simp] theorem State.endTransaction_ldr (s : State) : (s.endTransaction).ldr = s.ldr := by
  simp [State.endTransaction]
@[simp] theorem State.endTransaction_img (s : State) : (s.endTransaction).img = s.img := by
  simp [State.endTransaction]
@[simp] theorem State.endTransaction_eng (s : State) : (s.endTransaction).eng = s.eng := by
  simp [State.endTransaction]
@[simp] theorem State.endTransaction_line (s : State) : (s.endTransaction).line = s.line := by
  simp [State.endTransaction]
@[simp] theorem State.endTransaction_trk (s : State) : (s.endTransaction).trk = s.trk := by
  simp [State.endTransaction]
@[simp] theorem State.endTransaction_rx (s : State) : (s.endTransaction).rx = s.rx := by
  simp [State.endTransaction]
@[simp] theorem State.endTransaction_tx (s : State) : (s.endTransaction).tx = s.tx := by
  simp [State.endTransaction]
@[simp] theorem State.endTransaction_inp (s : State) : (s.endTransaction).inp = s.inp := by
  simp [State.endTransaction]
@[simp] theorem State.endTransaction_within (s : State) : (s.endTransaction).within = s.within := by
  simp [State.endTransaction]
@[simp] theorem State.endTransaction_drv (s : State) : (s.endTransaction).drv = s.drv := by
  simp [State.endTransaction]
@[simp] theorem State.endTransaction_cnt (s : State) : (s.endTransaction).cnt = s.cnt := by
  simp [State.endTransaction]
@[simp] theorem State.endTransaction_lineIn (s : State) : (s.endTransaction).lineIn = s.lineIn := by
  simp [State.endTransaction]
@[simp] theorem State.endTransaction_cfgIn (s : State) : (s.endTransaction).cfgIn = s.cfgIn := by
  simp [State.endTransaction]
@[simp] theorem State.endTransaction_contactIn (s : State) : (s.endTransaction).contactIn = s.contactIn := by
  simp [State.endTransaction]
@[simp] theorem State.endTransaction_pending (s : State) : (s.endTransaction).pending = s.pending := by
  simp [State.endTransaction]
@[simp] theorem State.endTransaction_tapSelectLow (s : State) : s.endTransaction.tapSelectLow = false := rfl
@[simp] theorem State.endTransaction_trans (s : State) : s.endTransaction.tap.trans = .idle := rfl
@[simp] theorem State.endTransaction_tap_queue (s : State) : s.endTransaction.tap.queue = s.tap.queue := by
  simp [State.endTransaction]
@[simp] theorem State.endTransaction_tap_lossMark (s : State) : s.endTransaction.tap.lossMark = s.tap.lossMark := by
  simp [State.endTransaction]
@[simp] theorem State.endTransaction_tap_lastResult (s : State) : s.endTransaction.tap.lastResult = s.tap.lastResult := by
  simp [State.endTransaction]
@[simp] theorem State.endTransaction_tap_lostEvents (s : State) : s.endTransaction.tap.lostEvents = s.tap.lostEvents := by
  simp [State.endTransaction]
@[simp] theorem State.endTransaction_tap_status (s : State) : s.endTransaction.tap.status = s.tap.status := by
  simp [State.endTransaction]
@[simp] theorem State.endTransaction_tap_dout (s : State) : s.endTransaction.tap.dout = s.tap.dout := by
  simp [State.endTransaction]

/-- The end of a transaction in one equation: the pin is high, the staged copy is published, the transaction is IDLE. -/
theorem State.endTransaction_eq (s : State) :
    s.endTransaction =
      { s with
        tapSelectLow := false
        tap := { s.tap with
          trans := .idle, staged := none, published := s.tap.staged.getD s.tap.published } } := by
  rcases h : s.tap.staged with _ | c <;> simp [State.endTransaction, State.publish, State.selectHigh, h]


end Sys2Proof.Machine
end

