-- ==== Sys2Proof/Laws/Data.lean ====
section
/-! SUPPORT. Reads after writes: bit vectors built by `bitsOf`, the roster, the sixteen terms, the allocation table. -/

namespace Sys2Proof.Machine

/-! ### Bits -/

/-- Bit `i` of `bitsOf f n` is `f i`. -/
@[simp] theorem getLsbD_bitsOf (f : Nat → Bool) (n i : Nat) : (bitsOf f n).getLsbD i = (decide (i < n) && f i) := by
  induction n with
  | zero => simp [bitsOf]
  | succ n ih =>
    simp only [bitsOf, BitVec.getLsbD_cons]
    by_cases h : i = n
    · subst h; simp
    · simp only [h, if_false, ih]
      by_cases h2 : i < n
      · simp [h2, Nat.lt_succ_of_lt h2]
      · simp [h2, show ¬ i < n + 1 by omega]

/-! ### The roster -/

@[simp] theorem Vector.get_ofFn {α : Type} {n : Nat} (f : Fin n → α) (i : Fin n) : (Vector.ofFn f).get i = f i := by
  simp [Vector.get_eq_getElem]

@[simp] theorem Vector.get_replicate {α : Type} {n : Nat} (a : α) (i : Fin n) : (Vector.replicate n a).get i = a := by
  simp [Vector.get_eq_getElem]

/-- A record read after a record is replaced. -/
theorem State.member_setMember (n m : StationNo) (r : Member) (s : State) :
    (s.setMember n r).member m = if m = n then r else s.member m := by
  simp only [State.member, State.setMember, Vector.get_eq_getElem, Vector.getElem_set]
  by_cases h : m = n
  · subst h; simp
  · rw [if_neg h, if_neg (fun e => h (Fin.ext e.symm))]

@[simp] theorem State.member_setMember_self (n : StationNo) (r : Member) (s : State) :
    (s.setMember n r).member n = r := by simp [State.member_setMember]

theorem State.member_setMember_of_ne (n m : StationNo) (r : Member) (s : State) (h : m ≠ n) :
    (s.setMember n r).member m = s.member m := by simp [State.member_setMember, h]

@[simp] theorem mapRoster_get (f : StationNo → Member → Member) (r : Roster) (n : StationNo) :
    (mapRoster f r).get n = f n (r.get n) := by simp [mapRoster]

/-- A record depends on the image alone. -/
theorem State.member_congr {s t : State} (h : t.img = s.img) (n : StationNo) : t.member n = s.member n := by
  simp [State.member, h]

@[simp] theorem State.post_member (kind : EventKind) (a b : Nat) (s : State) (n : StationNo) :
    (s.post kind a b).member n = s.member n := State.member_congr (by simp) n

@[simp] theorem State.postAll_member (es : List (EventKind × Nat × Nat)) (s : State) (n : StationNo) :
    (s.postAll es).member n = s.member n := State.member_congr (by simp) n

@[simp] theorem State.count_member (f : Counters → Counters) (s : State) (n : StationNo) :
    (s.count f).member n = s.member n := rfl

@[simp] theorem State.enter_member (st : Station) (d : Nat) (s : State) (n : StationNo) :
    (s.enter st d).member n = s.member n := State.member_congr (by simp) n

@[simp] theorem State.setOutputs_member (s : State) (n : StationNo) : s.setOutputs.member n = s.member n := rfl

@[simp] theorem reset_member (n : StationNo) : State.reset.member n = Member.unseen := by
  simp [State.member, State.reset, Image.empty]

@[simp] theorem reset_term (j : TermNo) : State.reset.eng.terms.get j = TermState.reset := by
  simp [State.reset, TermEngine.reset]

@[simp] theorem mem_stations (n : StationNo) : n ∈ stations := List.mem_finRange n

end Sys2Proof.Machine
end

