-- ==== Sys2Proof/Laws/Frames.lean ====
section
/-! SUPPORT. The frame of every compound operation, field by field: what it leaves as it was. -/

namespace Sys2Proof.Machine

/-! ### The image store (Chapter 1) -/

@[simp] theorem State.countRepeat_power (n : StationNo) (s : State) : (s.countRepeat n).power = s.power := by
  simp [State.countRepeat]
@[simp] theorem State.countRepeat_strap (n : StationNo) (s : State) : (s.countRepeat n).strap = s.strap := by
  simp [State.countRepeat]
@[simp] theorem State.countRepeat_tapSelectLow (n : StationNo) (s : State) : (s.countRepeat n).tapSelectLow = s.tapSelectLow := by
  simp [State.countRepeat]
@[simp] theorem State.countRepeat_inputPins (n : StationNo) (s : State) : (s.countRepeat n).inputPins = s.inputPins := by
  simp [State.countRepeat]
@[simp] theorem State.countRepeat_ctl (n : StationNo) (s : State) : (s.countRepeat n).ctl = s.ctl := by
  simp [State.countRepeat]
@[simp] theorem State.countRepeat_ldr (n : StationNo) (s : State) : (s.countRepeat n).ldr = s.ldr := by
  simp [State.countRepeat]
@[simp] theorem State.countRepeat_eng (n : StationNo) (s : State) : (s.countRepeat n).eng = s.eng := by
  simp [State.countRepeat]
@[simp] theorem State.countRepeat_line (n : StationNo) (s : State) : (s.countRepeat n).line = s.line := by
  simp [State.countRepeat]
@[simp] theorem State.countRepeat_trk (n : StationNo) (s : State) : (s.countRepeat n).trk = s.trk := by
  simp [State.countRepeat]
@[simp] theorem State.countRepeat_rx (n : StationNo) (s : State) : (s.countRepeat n).rx = s.rx := by
  simp [State.countRepeat]
@[simp] theorem State.countRepeat_tx (n : StationNo) (s : State) : (s.countRepeat n).tx = s.tx := by
  simp [State.countRepeat]
@[simp] theorem State.countRepeat_inp (n : StationNo) (s : State) : (s.countRepeat n).inp = s.inp := by
  simp [State.countRepeat]
@[simp] theorem State.countRepeat_within (n : StationNo) (s : State) : (s.countRepeat n).within = s.within := by
  simp [State.countRepeat]
@[simp] theorem State.countRepeat_drv (n : StationNo) (s : State) : (s.countRepeat n).drv = s.drv := by
  simp [State.countRepeat]
@[simp] theorem State.countRepeat_tap (n : StationNo) (s : State) : (s.countRepeat n).tap = s.tap := by
  simp [State.countRepeat]
@[simp] theorem State.countRepeat_lineIn (n : StationNo) (s : State) : (s.countRepeat n).lineIn = s.lineIn := by
  simp [State.countRepeat]
@[simp] theorem State.countRepeat_cfgIn (n : StationNo) (s : State) : (s.countRepeat n).cfgIn = s.cfgIn := by
  simp [State.countRepeat]
@[simp] theorem State.countRepeat_contactIn (n : StationNo) (s : State) : (s.countRepeat n).contactIn = s.contactIn := by
  simp [State.countRepeat]
@[simp] theorem State.countRepeat_pending (n : StationNo) (s : State) : (s.countRepeat n).pending = s.pending := by
  simp [State.countRepeat]
@[simp] theorem State.noteTag_power (n : StationNo) (before : Member) (tag : BitVec 10) (s : State) : (s.noteTag n before tag).power = s.power := by
  unfold State.noteTag; split <;> simp
@[simp] theorem State.noteTag_strap (n : StationNo) (before : Member) (tag : BitVec 10) (s : State) : (s.noteTag n before tag).strap = s.strap := by
  unfold State.noteTag; split <;> simp
@[simp] theorem State.noteTag_tapSelectLow (n : StationNo) (before : Member) (tag : BitVec 10) (s : State) : (s.noteTag n before tag).tapSelectLow = s.tapSelectLow := by
  unfold State.noteTag; split <;> simp
@[simp] theorem State.noteTag_inputPins (n : StationNo) (before : Member) (tag : BitVec 10) (s : State) : (s.noteTag n before tag).inputPins = s.inputPins := by
  unfold State.noteTag; split <;> simp
@[simp] theorem State.noteTag_ctl (n : StationNo) (before : Member) (tag : BitVec 10) (s : State) : (s.noteTag n before tag).ctl = s.ctl := by
  unfold State.noteTag; split <;> simp
@[simp] theorem State.noteTag_ldr (n : StationNo) (before : Member) (tag : BitVec 10) (s : State) : (s.noteTag n before tag).ldr = s.ldr := by
  unfold State.noteTag; split <;> simp
@[simp] theorem State.noteTag_eng (n : StationNo) (before : Member) (tag : BitVec 10) (s : State) : (s.noteTag n before tag).eng = s.eng := by
  unfold State.noteTag; split <;> simp
@[simp] theorem State.noteTag_line (n : StationNo) (before : Member) (tag : BitVec 10) (s : State) : (s.noteTag n before tag).line = s.line := by
  unfold State.noteTag; split <;> simp
@[simp] theorem State.noteTag_trk (n : StationNo) (before : Member) (tag : BitVec 10) (s : State) : (s.noteTag n before tag).trk = s.trk := by
  unfold State.noteTag; split <;> simp
@[simp] theorem State.noteTag_rx (n : StationNo) (before : Member) (tag : BitVec 10) (s : State) : (s.noteTag n before tag).rx = s.rx := by
  unfold State.noteTag; split <;> simp
@[simp] theorem State.noteTag_tx (n : StationNo) (before : Member) (tag : BitVec 10) (s : State) : (s.noteTag n before tag).tx = s.tx := by
  unfold State.noteTag; split <;> simp
@[simp] theorem State.noteTag_inp (n : StationNo) (before : Member) (tag : BitVec 10) (s : State) : (s.noteTag n before tag).inp = s.inp := by
  unfold State.noteTag; split <;> simp
@[simp] theorem State.noteTag_within (n : StationNo) (before : Member) (tag : BitVec 10) (s : State) : (s.noteTag n before tag).within = s.within := by
  unfold State.noteTag; split <;> simp
@[simp] theorem State.noteTag_drv (n : StationNo) (before : Member) (tag : BitVec 10) (s : State) : (s.noteTag n before tag).drv = s.drv := by
  unfold State.noteTag; split <;> simp
@[simp] theorem State.noteTag_cnt (n : StationNo) (before : Member) (tag : BitVec 10) (s : State) : (s.noteTag n before tag).cnt = s.cnt := by
  unfold State.noteTag; split <;> simp
@[simp] theorem State.noteTag_lineIn (n : StationNo) (before : Member) (tag : BitVec 10) (s : State) : (s.noteTag n before tag).lineIn = s.lineIn := by
  unfold State.noteTag; split <;> simp
@[simp] theorem State.noteTag_cfgIn (n : StationNo) (before : Member) (tag : BitVec 10) (s : State) : (s.noteTag n before tag).cfgIn = s.cfgIn := by
  unfold State.noteTag; split <;> simp
@[simp] theorem State.noteTag_contactIn (n : StationNo) (before : Member) (tag : BitVec 10) (s : State) : (s.noteTag n before tag).contactIn = s.contactIn := by
  unfold State.noteTag; split <;> simp
@[simp] theorem State.noteTag_pending (n : StationNo) (before : Member) (tag : BitVec 10) (s : State) : (s.noteTag n before tag).pending = s.pending := by
  unfold State.noteTag; split <;> simp
@[simp] theorem State.allocate_power (n : StationNo) (wanted : Nat) (s : State) : (s.allocate n wanted).power = s.power := by
  simp only [State.allocate]; split <;> simp
@[simp] theorem State.allocate_strap (n : StationNo) (wanted : Nat) (s : State) : (s.allocate n wanted).strap = s.strap := by
  simp only [State.allocate]; split <;> simp
@[simp] theorem State.allocate_tapSelectLow (n : StationNo) (wanted : Nat) (s : State) : (s.allocate n wanted).tapSelectLow = s.tapSelectLow := by
  simp only [State.allocate]; split <;> simp
@[simp] theorem State.allocate_inputPins (n : StationNo) (wanted : Nat) (s : State) : (s.allocate n wanted).inputPins = s.inputPins := by
  simp only [State.allocate]; split <;> simp
@[simp] theorem State.allocate_ctl (n : StationNo) (wanted : Nat) (s : State) : (s.allocate n wanted).ctl = s.ctl := by
  simp only [State.allocate]; split <;> simp
@[simp] theorem State.allocate_ldr (n : StationNo) (wanted : Nat) (s : State) : (s.allocate n wanted).ldr = s.ldr := by
  simp only [State.allocate]; split <;> simp
@[simp] theorem State.allocate_eng (n : StationNo) (wanted : Nat) (s : State) : (s.allocate n wanted).eng = s.eng := by
  simp only [State.allocate]; split <;> simp
@[simp] theorem State.allocate_line (n : StationNo) (wanted : Nat) (s : State) : (s.allocate n wanted).line = s.line := by
  simp only [State.allocate]; split <;> simp
@[simp] theorem State.allocate_trk (n : StationNo) (wanted : Nat) (s : State) : (s.allocate n wanted).trk = s.trk := by
  simp only [State.allocate]; split <;> simp
@[simp] theorem State.allocate_rx (n : StationNo) (wanted : Nat) (s : State) : (s.allocate n wanted).rx = s.rx := by
  simp only [State.allocate]; split <;> simp
@[simp] theorem State.allocate_tx (n : StationNo) (wanted : Nat) (s : State) : (s.allocate n wanted).tx = s.tx := by
  simp only [State.allocate]; split <;> simp
@[simp] theorem State.allocate_inp (n : StationNo) (wanted : Nat) (s : State) : (s.allocate n wanted).inp = s.inp := by
  simp only [State.allocate]; split <;> simp
@[simp] theorem State.allocate_within (n : StationNo) (wanted : Nat) (s : State) : (s.allocate n wanted).within = s.within := by
  simp only [State.allocate]; split <;> simp
@[simp] theorem State.allocate_drv (n : StationNo) (wanted : Nat) (s : State) : (s.allocate n wanted).drv = s.drv := by
  simp only [State.allocate]; split <;> simp
@[simp] theorem State.allocate_cnt (n : StationNo) (wanted : Nat) (s : State) : (s.allocate n wanted).cnt = s.cnt := by
  simp only [State.allocate]; split <;> simp
@[simp] theorem State.allocate_lineIn (n : StationNo) (wanted : Nat) (s : State) : (s.allocate n wanted).lineIn = s.lineIn := by
  simp only [State.allocate]; split <;> simp
@[simp] theorem State.allocate_cfgIn (n : StationNo) (wanted : Nat) (s : State) : (s.allocate n wanted).cfgIn = s.cfgIn := by
  simp only [State.allocate]; split <;> simp
@[simp] theorem State.allocate_contactIn (n : StationNo) (wanted : Nat) (s : State) : (s.allocate n wanted).contactIn = s.contactIn := by
  simp only [State.allocate]; split <;> simp
@[simp] theorem State.allocate_pending (n : StationNo) (wanted : Nat) (s : State) : (s.allocate n wanted).pending = s.pending := by
  simp only [State.allocate]; split <;> simp
@[simp] theorem State.writePoints_power (n : StationNo) (w : Nat) (points : List Byte) (s : State) : (s.writePoints n w points).power = s.power := by
  simp only [State.writePoints]; repeat' split
  all_goals simp
@[simp] theorem State.writePoints_strap (n : StationNo) (w : Nat) (points : List Byte) (s : State) : (s.writePoints n w points).strap = s.strap := by
  simp only [State.writePoints]; repeat' split
  all_goals simp
@[simp] theorem State.writePoints_tapSelectLow (n : StationNo) (w : Nat) (points : List Byte) (s : State) : (s.writePoints n w points).tapSelectLow = s.tapSelectLow := by
  simp only [State.writePoints]; repeat' split
  all_goals simp
@[simp] theorem State.writePoints_inputPins (n : StationNo) (w : Nat) (points : List Byte) (s : State) : (s.writePoints n w points).inputPins = s.inputPins := by
  simp only [State.writePoints]; repeat' split
  all_goals simp
@[simp] theorem State.writePoints_ctl (n : StationNo) (w : Nat) (points : List Byte) (s : State) : (s.writePoints n w points).ctl = s.ctl := by
  simp only [State.writePoints]; repeat' split
  all_goals simp
@[simp] theorem State.writePoints_ldr (n : StationNo) (w : Nat) (points : List Byte) (s : State) : (s.writePoints n w points).ldr = s.ldr := by
  simp only [State.writePoints]; repeat' split
  all_goals simp
@[simp] theorem State.writePoints_eng (n : StationNo) (w : Nat) (points : List Byte) (s : State) : (s.writePoints n w points).eng = s.eng := by
  simp only [State.writePoints]; repeat' split
  all_goals simp
@[simp] theorem State.writePoints_line (n : StationNo) (w : Nat) (points : List Byte) (s : State) : (s.writePoints n w points).line = s.line := by
  simp only [State.writePoints]; repeat' split
  all_goals simp
@[simp] theorem State.writePoints_trk (n : StationNo) (w : Nat) (points : List Byte) (s : State) : (s.writePoints n w points).trk = s.trk := by
  simp only [State.writePoints]; repeat' split
  all_goals simp
@[simp] theorem State.writePoints_rx (n : StationNo) (w : Nat) (points : List Byte) (s : State) : (s.writePoints n w points).rx = s.rx := by
  simp only [State.writePoints]; repeat' split
  all_goals simp
@[simp] theorem State.writePoints_tx (n : StationNo) (w : Nat) (points : List Byte) (s : State) : (s.writePoints n w points).tx = s.tx := by
  simp only [State.writePoints]; repeat' split
  all_goals simp
@[simp] theorem State.writePoints_inp (n : StationNo) (w : Nat) (points : List Byte) (s : State) : (s.writePoints n w points).inp = s.inp := by
  simp only [State.writePoints]; repeat' split
  all_goals simp
@[simp] theorem State.writePoints_within (n : StationNo) (w : Nat) (points : List Byte) (s : State) : (s.writePoints n w points).within = s.within := by
  simp only [State.writePoints]; repeat' split
  all_goals simp
@[simp] theorem State.writePoints_drv (n : StationNo) (w : Nat) (points : List Byte) (s : State) : (s.writePoints n w points).drv = s.drv := by
  simp only [State.writePoints]; repeat' split
  all_goals simp
@[simp] theorem State.writePoints_cnt (n : StationNo) (w : Nat) (points : List Byte) (s : State) : (s.writePoints n w points).cnt = s.cnt := by
  simp only [State.writePoints]; repeat' split
  all_goals simp
@[simp] theorem State.writePoints_lineIn (n : StationNo) (w : Nat) (points : List Byte) (s : State) : (s.writePoints n w points).lineIn = s.lineIn := by
  simp only [State.writePoints]; repeat' split
  all_goals simp
@[simp] theorem State.writePoints_cfgIn (n : StationNo) (w : Nat) (points : List Byte) (s : State) : (s.writePoints n w points).cfgIn = s.cfgIn := by
  simp only [State.writePoints]; repeat' split
  all_goals simp
@[simp] theorem State.writePoints_contactIn (n : StationNo) (w : Nat) (points : List Byte) (s : State) : (s.writePoints n w points).contactIn = s.contactIn := by
  simp only [State.writePoints]; repeat' split
  all_goals simp
@[simp] theorem State.writePoints_pending (n : StationNo) (w : Nat) (points : List Byte) (s : State) : (s.writePoints n w points).pending = s.pending := by
  simp only [State.writePoints]; repeat' split
  all_goals simp
@[simp] theorem State.refreshRecord_power (h : Header) (points : List Byte) (s : State) : (s.refreshRecord h points).power = s.power := by
  simp only [State.refreshRecord]; split <;> simp
@[simp] theorem State.refreshRecord_strap (h : Header) (points : List Byte) (s : State) : (s.refreshRecord h points).strap = s.strap := by
  simp only [State.refreshRecord]; split <;> simp
@[simp] theorem State.refreshRecord_tapSelectLow (h : Header) (points : List Byte) (s : State) : (s.refreshRecord h points).tapSelectLow = s.tapSelectLow := by
  simp only [State.refreshRecord]; split <;> simp
@[simp] theorem State.refreshRecord_inputPins (h : Header) (points : List Byte) (s : State) : (s.refreshRecord h points).inputPins = s.inputPins := by
  simp only [State.refreshRecord]; split <;> simp
@[simp] theorem State.refreshRecord_ctl (h : Header) (points : List Byte) (s : State) : (s.refreshRecord h points).ctl = s.ctl := by
  simp only [State.refreshRecord]; split <;> simp
@[simp] theorem State.refreshRecord_ldr (h : Header) (points : List Byte) (s : State) : (s.refreshRecord h points).ldr = s.ldr := by
  simp only [State.refreshRecord]; split <;> simp
@[simp] theorem State.refreshRecord_eng (h : Header) (points : List Byte) (s : State) : (s.refreshRecord h points).eng = s.eng := by
  simp only [State.refreshRecord]; split <;> simp
@[simp] theorem State.refreshRecord_line (h : Header) (points : List Byte) (s : State) : (s.refreshRecord h points).line = s.line := by
  simp only [State.refreshRecord]; split <;> simp
@[simp] theorem State.refreshRecord_trk (h : Header) (points : List Byte) (s : State) : (s.refreshRecord h points).trk = s.trk := by
  simp only [State.refreshRecord]; split <;> simp
@[simp] theorem State.refreshRecord_rx (h : Header) (points : List Byte) (s : State) : (s.refreshRecord h points).rx = s.rx := by
  simp only [State.refreshRecord]; split <;> simp
@[simp] theorem State.refreshRecord_tx (h : Header) (points : List Byte) (s : State) : (s.refreshRecord h points).tx = s.tx := by
  simp only [State.refreshRecord]; split <;> simp
@[simp] theorem State.refreshRecord_inp (h : Header) (points : List Byte) (s : State) : (s.refreshRecord h points).inp = s.inp := by
  simp only [State.refreshRecord]; split <;> simp
@[simp] theorem State.refreshRecord_within (h : Header) (points : List Byte) (s : State) : (s.refreshRecord h points).within = s.within := by
  simp only [State.refreshRecord]; split <;> simp
@[simp] theorem State.refreshRecord_drv (h : Header) (points : List Byte) (s : State) : (s.refreshRecord h points).drv = s.drv := by
  simp only [State.refreshRecord]; split <;> simp
@[simp] theorem State.refreshRecord_cnt (h : Header) (points : List Byte) (s : State) : (s.refreshRecord h points).cnt = s.cnt := by
  simp only [State.refreshRecord]; split <;> simp
@[simp] theorem State.refreshRecord_lineIn (h : Header) (points : List Byte) (s : State) : (s.refreshRecord h points).lineIn = s.lineIn := by
  simp only [State.refreshRecord]; split <;> simp
@[simp] theorem State.refreshRecord_cfgIn (h : Header) (points : List Byte) (s : State) : (s.refreshRecord h points).cfgIn = s.cfgIn := by
  simp only [State.refreshRecord]; split <;> simp
@[simp] theorem State.refreshRecord_contactIn (h : Header) (points : List Byte) (s : State) : (s.refreshRecord h points).contactIn = s.contactIn := by
  simp only [State.refreshRecord]; split <;> simp
@[simp] theorem State.refreshRecord_pending (h : Header) (points : List Byte) (s : State) : (s.refreshRecord h points).pending = s.pending := by
  simp only [State.refreshRecord]; split <;> simp
@[simp] theorem State.peerData_power (h : Header) (points : List Byte) (s : State) : (s.peerData h points).power = s.power := by
  simp only [State.peerData]; split <;> simp
@[simp] theorem State.peerData_strap (h : Header) (points : List Byte) (s : State) : (s.peerData h points).strap = s.strap := by
  simp only [State.peerData]; split <;> simp
@[simp] theorem State.peerData_tapSelectLow (h : Header) (points : List Byte) (s : State) : (s.peerData h points).tapSelectLow = s.tapSelectLow := by
  simp only [State.peerData]; split <;> simp
@[simp] theorem State.peerData_inputPins (h : Header) (points : List Byte) (s : State) : (s.peerData h points).inputPins = s.inputPins := by
  simp only [State.peerData]; split <;> simp
@[simp] theorem State.peerData_ctl (h : Header) (points : List Byte) (s : State) : (s.peerData h points).ctl = s.ctl := by
  simp only [State.peerData]; split <;> simp
@[simp] theorem State.peerData_ldr (h : Header) (points : List Byte) (s : State) : (s.peerData h points).ldr = s.ldr := by
  simp only [State.peerData]; split <;> simp
@[simp] theorem State.peerData_eng (h : Header) (points : List Byte) (s : State) : (s.peerData h points).eng = s.eng := by
  simp only [State.peerData]; split <;> simp
@[simp] theorem State.peerData_line (h : Header) (points : List Byte) (s : State) : (s.peerData h points).line = s.line := by
  simp only [State.peerData]; split <;> simp
@[simp] theorem State.peerData_trk (h : Header) (points : List Byte) (s : State) : (s.peerData h points).trk = s.trk := by
  simp only [State.peerData]; split <;> simp
@[simp] theorem State.peerData_rx (h : Header) (points : List Byte) (s : State) : (s.peerData h points).rx = s.rx := by
  simp only [State.peerData]; split <;> simp
@[simp] theorem State.peerData_tx (h : Header) (points : List Byte) (s : State) : (s.peerData h points).tx = s.tx := by
  simp only [State.peerData]; split <;> simp
@[simp] theorem State.peerData_inp (h : Header) (points : List Byte) (s : State) : (s.peerData h points).inp = s.inp := by
  simp only [State.peerData]; split <;> simp
@[simp] theorem State.peerData_within (h : Header) (points : List Byte) (s : State) : (s.peerData h points).within = s.within := by
  simp only [State.peerData]; split <;> simp
@[simp] theorem State.peerData_drv (h : Header) (points : List Byte) (s : State) : (s.peerData h points).drv = s.drv := by
  simp only [State.peerData]; split <;> simp
@[simp] theorem State.peerData_lineIn (h : Header) (points : List Byte) (s : State) : (s.peerData h points).lineIn = s.lineIn := by
  simp only [State.peerData]; split <;> simp
@[simp] theorem State.peerData_cfgIn (h : Header) (points : List Byte) (s : State) : (s.peerData h points).cfgIn = s.cfgIn := by
  simp only [State.peerData]; split <;> simp
@[simp] theorem State.peerData_contactIn (h : Header) (points : List Byte) (s : State) : (s.peerData h points).contactIn = s.contactIn := by
  simp only [State.peerData]; split <;> simp
@[simp] theorem State.peerData_pending (h : Header) (points : List Byte) (s : State) : (s.peerData h points).pending = s.pending := by
  simp only [State.peerData]; split <;> simp
@[simp] theorem State.peerLeave_power (n : StationNo) (s : State) : (s.peerLeave n).power = s.power := by
  simp only [State.peerLeave]; split <;> simp
@[simp] theorem State.peerLeave_strap (n : StationNo) (s : State) : (s.peerLeave n).strap = s.strap := by
  simp only [State.peerLeave]; split <;> simp
@[simp] theorem State.peerLeave_tapSelectLow (n : StationNo) (s : State) : (s.peerLeave n).tapSelectLow = s.tapSelectLow := by
  simp only [State.peerLeave]; split <;> simp
@[simp] theorem State.peerLeave_inputPins (n : StationNo) (s : State) : (s.peerLeave n).inputPins = s.inputPins := by
  simp only [State.peerLeave]; split <;> simp
@[simp] theorem State.peerLeave_ctl (n : StationNo) (s : State) : (s.peerLeave n).ctl = s.ctl := by
  simp only [State.peerLeave]; split <;> simp
@[simp] theorem State.peerLeave_ldr (n : StationNo) (s : State) : (s.peerLeave n).ldr = s.ldr := by
  simp only [State.peerLeave]; split <;> simp
@[simp] theorem State.peerLeave_eng (n : StationNo) (s : State) : (s.peerLeave n).eng = s.eng := by
  simp only [State.peerLeave]; split <;> simp
@[simp] theorem State.peerLeave_line (n : StationNo) (s : State) : (s.peerLeave n).line = s.line := by
  simp only [State.peerLeave]; split <;> simp
@[simp] theorem State.peerLeave_trk (n : StationNo) (s : State) : (s.peerLeave n).trk = s.trk := by
  simp only [State.peerLeave]; split <;> simp
@[simp] theorem State.peerLeave_rx (n : StationNo) (s : State) : (s.peerLeave n).rx = s.rx := by
  simp only [State.peerLeave]; split <;> simp
@[simp] theorem State.peerLeave_tx (n : StationNo) (s : State) : (s.peerLeave n).tx = s.tx := by
  simp only [State.peerLeave]; split <;> simp
@[simp] theorem State.peerLeave_inp (n : StationNo) (s : State) : (s.peerLeave n).inp = s.inp := by
  simp only [State.peerLeave]; split <;> simp
@[simp] theorem State.peerLeave_within (n : StationNo) (s : State) : (s.peerLeave n).within = s.within := by
  simp only [State.peerLeave]; split <;> simp
@[simp] theorem State.peerLeave_drv (n : StationNo) (s : State) : (s.peerLeave n).drv = s.drv := by
  simp only [State.peerLeave]; split <;> simp
@[simp] theorem State.peerLeave_cnt (n : StationNo) (s : State) : (s.peerLeave n).cnt = s.cnt := by
  simp only [State.peerLeave]; split <;> simp
@[simp] theorem State.peerLeave_lineIn (n : StationNo) (s : State) : (s.peerLeave n).lineIn = s.lineIn := by
  simp only [State.peerLeave]; split <;> simp
@[simp] theorem State.peerLeave_cfgIn (n : StationNo) (s : State) : (s.peerLeave n).cfgIn = s.cfgIn := by
  simp only [State.peerLeave]; split <;> simp
@[simp] theorem State.peerLeave_contactIn (n : StationNo) (s : State) : (s.peerLeave n).contactIn = s.contactIn := by
  simp only [State.peerLeave]; split <;> simp
@[simp] theorem State.peerLeave_pending (n : StationNo) (s : State) : (s.peerLeave n).pending = s.pending := by
  simp only [State.peerLeave]; split <;> simp
@[simp] theorem State.repackIfDue_power (cfg : Configuration) (s : State) : (s.repackIfDue cfg).power = s.power := by
  unfold State.repackIfDue; split <;> simp
@[simp] theorem State.repackIfDue_strap (cfg : Configuration) (s : State) : (s.repackIfDue cfg).strap = s.strap := by
  unfold State.repackIfDue; split <;> simp
@[simp] theorem State.repackIfDue_tapSelectLow (cfg : Configuration) (s : State) : (s.repackIfDue cfg).tapSelectLow = s.tapSelectLow := by
  unfold State.repackIfDue; split <;> simp
@[simp] theorem State.repackIfDue_inputPins (cfg : Configuration) (s : State) : (s.repackIfDue cfg).inputPins = s.inputPins := by
  unfold State.repackIfDue; split <;> simp
@[simp] theorem State.repackIfDue_ctl (cfg : Configuration) (s : State) : (s.repackIfDue cfg).ctl = s.ctl := by
  unfold State.repackIfDue; split <;> simp
@[simp] theorem State.repackIfDue_ldr (cfg : Configuration) (s : State) : (s.repackIfDue cfg).ldr = s.ldr := by
  unfold State.repackIfDue; split <;> simp
@[simp] theorem State.repackIfDue_eng (cfg : Configuration) (s : State) : (s.repackIfDue cfg).eng = s.eng := by
  unfold State.repackIfDue; split <;> simp
@[simp] theorem State.repackIfDue_line (cfg : Configuration) (s : State) : (s.repackIfDue cfg).line = s.line := by
  unfold State.repackIfDue; split <;> simp
@[simp] theorem State.repackIfDue_trk (cfg : Configuration) (s : State) : (s.repackIfDue cfg).trk = s.trk := by
  unfold State.repackIfDue; split <;> simp
@[simp] theorem State.repackIfDue_rx (cfg : Configuration) (s : State) : (s.repackIfDue cfg).rx = s.rx := by
  unfold State.repackIfDue; split <;> simp
@[simp] theorem State.repackIfDue_tx (cfg : Configuration) (s : State) : (s.repackIfDue cfg).tx = s.tx := by
  unfold State.repackIfDue; split <;> simp
@[simp] theorem State.repackIfDue_inp (cfg : Configuration) (s : State) : (s.repackIfDue cfg).inp = s.inp := by
  unfold State.repackIfDue; split <;> simp
@[simp] theorem State.repackIfDue_within (cfg : Configuration) (s : State) : (s.repackIfDue cfg).within = s.within := by
  unfold State.repackIfDue; split <;> simp
@[simp] theorem State.repackIfDue_drv (cfg : Configuration) (s : State) : (s.repackIfDue cfg).drv = s.drv := by
  unfold State.repackIfDue; split <;> simp
@[simp] theorem State.repackIfDue_tap (cfg : Configuration) (s : State) : (s.repackIfDue cfg).tap = s.tap := by
  unfold State.repackIfDue; split <;> simp
@[simp] theorem State.repackIfDue_cnt (cfg : Configuration) (s : State) : (s.repackIfDue cfg).cnt = s.cnt := by
  unfold State.repackIfDue; split <;> simp
@[simp] theorem State.repackIfDue_lineIn (cfg : Configuration) (s : State) : (s.repackIfDue cfg).lineIn = s.lineIn := by
  unfold State.repackIfDue; split <;> simp
@[simp] theorem State.repackIfDue_cfgIn (cfg : Configuration) (s : State) : (s.repackIfDue cfg).cfgIn = s.cfgIn := by
  unfold State.repackIfDue; split <;> simp
@[simp] theorem State.repackIfDue_contactIn (cfg : Configuration) (s : State) : (s.repackIfDue cfg).contactIn = s.contactIn := by
  unfold State.repackIfDue; split <;> simp
@[simp] theorem State.repackIfDue_pending (cfg : Configuration) (s : State) : (s.repackIfDue cfg).pending = s.pending := by
  unfold State.repackIfDue; split <;> simp

/-! ### The close (Chapters 2, 6, 8, 10) -/

@[simp] theorem State.controlAtClose_power (cfg : Configuration) (s : State) : (s.controlAtClose cfg).power = s.power := by
  unfold State.controlAtClose; repeat' split
  all_goals simp
@[simp] theorem State.controlAtClose_strap (cfg : Configuration) (s : State) : (s.controlAtClose cfg).strap = s.strap := by
  unfold State.controlAtClose; repeat' split
  all_goals simp
@[simp] theorem State.controlAtClose_tapSelectLow (cfg : Configuration) (s : State) : (s.controlAtClose cfg).tapSelectLow = s.tapSelectLow := by
  unfold State.controlAtClose; repeat' split
  all_goals simp
@[simp] theorem State.controlAtClose_inputPins (cfg : Configuration) (s : State) : (s.controlAtClose cfg).inputPins = s.inputPins := by
  unfold State.controlAtClose; repeat' split
  all_goals simp
@[simp] theorem State.controlAtClose_ldr (cfg : Configuration) (s : State) : (s.controlAtClose cfg).ldr = s.ldr := by
  unfold State.controlAtClose; repeat' split
  all_goals simp
@[simp] theorem State.controlAtClose_img (cfg : Configuration) (s : State) : (s.controlAtClose cfg).img = s.img := by
  unfold State.controlAtClose; repeat' split
  all_goals simp
@[simp] theorem State.controlAtClose_eng (cfg : Configuration) (s : State) : (s.controlAtClose cfg).eng = s.eng := by
  unfold State.controlAtClose; repeat' split
  all_goals simp
@[simp] theorem State.controlAtClose_line (cfg : Configuration) (s : State) : (s.controlAtClose cfg).line = s.line := by
  unfold State.controlAtClose; repeat' split
  all_goals simp
@[simp] theorem State.controlAtClose_trk (cfg : Configuration) (s : State) : (s.controlAtClose cfg).trk = s.trk := by
  unfold State.controlAtClose; repeat' split
  all_goals simp
@[simp] theorem State.controlAtClose_rx (cfg : Configuration) (s : State) : (s.controlAtClose cfg).rx = s.rx := by
  unfold State.controlAtClose; repeat' split
  all_goals simp
@[simp] theorem State.controlAtClose_inp (cfg : Configuration) (s : State) : (s.controlAtClose cfg).inp = s.inp := by
  unfold State.controlAtClose; repeat' split
  all_goals simp
@[simp] theorem State.controlAtClose_within (cfg : Configuration) (s : State) : (s.controlAtClose cfg).within = s.within := by
  unfold State.controlAtClose; repeat' split
  all_goals simp
@[simp] theorem State.controlAtClose_drv (cfg : Configuration) (s : State) : (s.controlAtClose cfg).drv = s.drv := by
  unfold State.controlAtClose; repeat' split
  all_goals simp
@[simp] theorem State.controlAtClose_tap (cfg : Configuration) (s : State) : (s.controlAtClose cfg).tap = s.tap := by
  unfold State.controlAtClose; repeat' split
  all_goals simp
@[simp] theorem State.controlAtClose_cnt (cfg : Configuration) (s : State) : (s.controlAtClose cfg).cnt = s.cnt := by
  unfold State.controlAtClose; repeat' split
  all_goals simp
@[simp] theorem State.controlAtClose_lineIn (cfg : Configuration) (s : State) : (s.controlAtClose cfg).lineIn = s.lineIn := by
  unfold State.controlAtClose; repeat' split
  all_goals simp
@[simp] theorem State.controlAtClose_cfgIn (cfg : Configuration) (s : State) : (s.controlAtClose cfg).cfgIn = s.cfgIn := by
  unfold State.controlAtClose; repeat' split
  all_goals simp
@[simp] theorem State.controlAtClose_contactIn (cfg : Configuration) (s : State) : (s.controlAtClose cfg).contactIn = s.contactIn := by
  unfold State.controlAtClose; repeat' split
  all_goals simp
@[simp] theorem State.controlAtClose_pending (cfg : Configuration) (s : State) : (s.controlAtClose cfg).pending = s.pending := by
  unfold State.controlAtClose; repeat' split
  all_goals simp
@[simp] theorem State.takeWithin_power (cfg : Configuration) (s : State) : (s.takeWithin cfg).power = s.power := by
  unfold State.takeWithin; split <;> simp
@[simp] theorem State.takeWithin_strap (cfg : Configuration) (s : State) : (s.takeWithin cfg).strap = s.strap := by
  unfold State.takeWithin; split <;> simp
@[simp] theorem State.takeWithin_tapSelectLow (cfg : Configuration) (s : State) : (s.takeWithin cfg).tapSelectLow = s.tapSelectLow := by
  unfold State.takeWithin; split <;> simp
@[simp] theorem State.takeWithin_inputPins (cfg : Configuration) (s : State) : (s.takeWithin cfg).inputPins = s.inputPins := by
  unfold State.takeWithin; split <;> simp
@[simp] theorem State.takeWithin_ctl (cfg : Configuration) (s : State) : (s.takeWithin cfg).ctl = s.ctl := by
  unfold State.takeWithin; split <;> simp
@[simp] theorem State.takeWithin_ldr (cfg : Configuration) (s : State) : (s.takeWithin cfg).ldr = s.ldr := by
  unfold State.takeWithin; split <;> simp
@[simp] theorem State.takeWithin_eng (cfg : Configuration) (s : State) : (s.takeWithin cfg).eng = s.eng := by
  unfold State.takeWithin; split <;> simp
@[simp] theorem State.takeWithin_line (cfg : Configuration) (s : State) : (s.takeWithin cfg).line = s.line := by
  unfold State.takeWithin; split <;> simp
@[simp] theorem State.takeWithin_trk (cfg : Configuration) (s : State) : (s.takeWithin cfg).trk = s.trk := by
  unfold State.takeWithin; split <;> simp
@[simp] theorem State.takeWithin_rx (cfg : Configuration) (s : State) : (s.takeWithin cfg).rx = s.rx := by
  unfold State.takeWithin; split <;> simp
@[simp] theorem State.takeWithin_tx (cfg : Configuration) (s : State) : (s.takeWithin cfg).tx = s.tx := by
  unfold State.takeWithin; split <;> simp
@[simp] theorem State.takeWithin_drv (cfg : Configuration) (s : State) : (s.takeWithin cfg).drv = s.drv := by
  unfold State.takeWithin; split <;> simp
@[simp] theorem State.takeWithin_tap (cfg : Configuration) (s : State) : (s.takeWithin cfg).tap = s.tap := by
  unfold State.takeWithin; split <;> simp
@[simp] theorem State.takeWithin_cnt (cfg : Configuration) (s : State) : (s.takeWithin cfg).cnt = s.cnt := by
  unfold State.takeWithin; split <;> simp
@[simp] theorem State.takeWithin_lineIn (cfg : Configuration) (s : State) : (s.takeWithin cfg).lineIn = s.lineIn := by
  unfold State.takeWithin; split <;> simp
@[simp] theorem State.takeWithin_cfgIn (cfg : Configuration) (s : State) : (s.takeWithin cfg).cfgIn = s.cfgIn := by
  unfold State.takeWithin; split <;> simp
@[simp] theorem State.takeWithin_contactIn (cfg : Configuration) (s : State) : (s.takeWithin cfg).contactIn = s.contactIn := by
  unfold State.takeWithin; split <;> simp
@[simp] theorem State.takeWithin_pending (cfg : Configuration) (s : State) : (s.takeWithin cfg).pending = s.pending := by
  unfold State.takeWithin; split <;> simp
@[simp] theorem State.stageCopy_power (s : State) : (s.stageCopy).power = s.power := by
  unfold State.stageCopy; split <;> simp
@[simp] theorem State.stageCopy_strap (s : State) : (s.stageCopy).strap = s.strap := by
  unfold State.stageCopy; split <;> simp
@[simp] theorem State.stageCopy_tapSelectLow (s : State) : (s.stageCopy).tapSelectLow = s.tapSelectLow := by
  unfold State.stageCopy; split <;> simp
@[simp] theorem State.stageCopy_inputPins (s : State) : (s.stageCopy).inputPins = s.inputPins := by
  unfold State.stageCopy; split <;> simp
@[simp] theorem State.stageCopy_ctl (s : State) : (s.stageCopy).ctl = s.ctl := by
  unfold State.stageCopy; split <;> simp
@[simp] theorem State.stageCopy_ldr (s : State) : (s.stageCopy).ldr = s.ldr := by
  unfold State.stageCopy; split <;> simp
@[simp] theorem State.stageCopy_img (s : State) : (s.stageCopy).img = s.img := by
  unfold State.stageCopy; split <;> simp
@[simp] theorem State.stageCopy_eng (s : State) : (s.stageCopy).eng = s.eng := by
  unfold State.stageCopy; split <;> simp
@[simp] theorem State.stageCopy_line (s : State) : (s.stageCopy).line = s.line := by
  unfold State.stageCopy; split <;> simp
@[simp] theorem State.stageCopy_trk (s : State) : (s.stageCopy).trk = s.trk := by
  unfold State.stageCopy; split <;> simp
@[simp] theorem State.stageCopy_rx (s : State) : (s.stageCopy).rx = s.rx := by
  unfold State.stageCopy; split <;> simp
@[simp] theorem State.stageCopy_tx (s : State) : (s.stageCopy).tx = s.tx := by
  unfold State.stageCopy; split <;> simp
@[simp] theorem State.stageCopy_inp (s : State) : (s.stageCopy).inp = s.inp := by
  unfold State.stageCopy; split <;> simp
@[simp] theorem State.stageCopy_within (s : State) : (s.stageCopy).within = s.within := by
  unfold State.stageCopy; split <;> simp
@[simp] theorem State.stageCopy_drv (s : State) : (s.stageCopy).drv = s.drv := by
  unfold State.stageCopy; split <;> simp
@[simp] theorem State.stageCopy_lineIn (s : State) : (s.stageCopy).lineIn = s.lineIn := by
  unfold State.stageCopy; split <;> simp
@[simp] theorem State.stageCopy_cfgIn (s : State) : (s.stageCopy).cfgIn = s.cfgIn := by
  unfold State.stageCopy; split <;> simp
@[simp] theorem State.stageCopy_contactIn (s : State) : (s.stageCopy).contactIn = s.contactIn := by
  unfold State.stageCopy; split <;> simp
@[simp] theorem State.stageCopy_pending (s : State) : (s.stageCopy).pending = s.pending := by
  unfold State.stageCopy; split <;> simp
@[simp] theorem State.evaluatedAtClose_power (cfg : Configuration) (cut : Option Cursor) (s : State) : (s.evaluatedAtClose cfg cut).power = s.power := by
  simp [State.evaluatedAtClose]
@[simp] theorem State.evaluatedAtClose_strap (cfg : Configuration) (cut : Option Cursor) (s : State) : (s.evaluatedAtClose cfg cut).strap = s.strap := by
  simp [State.evaluatedAtClose]
@[simp] theorem State.evaluatedAtClose_tapSelectLow (cfg : Configuration) (cut : Option Cursor) (s : State) : (s.evaluatedAtClose cfg cut).tapSelectLow = s.tapSelectLow := by
  simp [State.evaluatedAtClose]
@[simp] theorem State.evaluatedAtClose_inputPins (cfg : Configuration) (cut : Option Cursor) (s : State) : (s.evaluatedAtClose cfg cut).inputPins = s.inputPins := by
  simp [State.evaluatedAtClose]
@[simp] theorem State.evaluatedAtClose_ctl (cfg : Configuration) (cut : Option Cursor) (s : State) : (s.evaluatedAtClose cfg cut).ctl = s.ctl := by
  simp [State.evaluatedAtClose]
@[simp] theorem State.evaluatedAtClose_ldr (cfg : Configuration) (cut : Option Cursor) (s : State) : (s.evaluatedAtClose cfg cut).ldr = s.ldr := by
  simp [State.evaluatedAtClose]
@[simp] theorem State.evaluatedAtClose_line (cfg : Configuration) (cut : Option Cursor) (s : State) : (s.evaluatedAtClose cfg cut).line = s.line := by
  simp [State.evaluatedAtClose]
@[simp] theorem State.evaluatedAtClose_trk (cfg : Configuration) (cut : Option Cursor) (s : State) : (s.evaluatedAtClose cfg cut).trk = s.trk := by
  simp [State.evaluatedAtClose]
@[simp] theorem State.evaluatedAtClose_rx (cfg : Configuration) (cut : Option Cursor) (s : State) : (s.evaluatedAtClose cfg cut).rx = s.rx := by
  simp [State.evaluatedAtClose]
@[simp] theorem State.evaluatedAtClose_tx (cfg : Configuration) (cut : Option Cursor) (s : State) : (s.evaluatedAtClose cfg cut).tx = s.tx := by
  simp [State.evaluatedAtClose]
@[simp] theorem State.evaluatedAtClose_tap (cfg : Configuration) (cut : Option Cursor) (s : State) : (s.evaluatedAtClose cfg cut).tap = s.tap := by
  simp [State.evaluatedAtClose]
@[simp] theorem State.evaluatedAtClose_cnt (cfg : Configuration) (cut : Option Cursor) (s : State) : (s.evaluatedAtClose cfg cut).cnt = s.cnt := by
  simp [State.evaluatedAtClose]
@[simp] theorem State.evaluatedAtClose_lineIn (cfg : Configuration) (cut : Option Cursor) (s : State) : (s.evaluatedAtClose cfg cut).lineIn = s.lineIn := by
  simp [State.evaluatedAtClose]
@[simp] theorem State.evaluatedAtClose_cfgIn (cfg : Configuration) (cut : Option Cursor) (s : State) : (s.evaluatedAtClose cfg cut).cfgIn = s.cfgIn := by
  simp [State.evaluatedAtClose]
@[simp] theorem State.evaluatedAtClose_contactIn (cfg : Configuration) (cut : Option Cursor) (s : State) : (s.evaluatedAtClose cfg cut).contactIn = s.contactIn := by
  simp [State.evaluatedAtClose]
@[simp] theorem State.evaluatedAtClose_pending (cfg : Configuration) (cut : Option Cursor) (s : State) : (s.evaluatedAtClose cfg cut).pending = s.pending := by
  simp [State.evaluatedAtClose]
@[simp] theorem State.closeWork_power (cfg : Configuration) (cut : Option Cursor) (s : State) : (s.closeWork cfg cut).power = s.power := by
  simp [State.closeWork]
@[simp] theorem State.closeWork_strap (cfg : Configuration) (cut : Option Cursor) (s : State) : (s.closeWork cfg cut).strap = s.strap := by
  simp [State.closeWork]
@[simp] theorem State.closeWork_tapSelectLow (cfg : Configuration) (cut : Option Cursor) (s : State) : (s.closeWork cfg cut).tapSelectLow = s.tapSelectLow := by
  simp [State.closeWork]
@[simp] theorem State.closeWork_inputPins (cfg : Configuration) (cut : Option Cursor) (s : State) : (s.closeWork cfg cut).inputPins = s.inputPins := by
  simp [State.closeWork]
@[simp] theorem State.closeWork_ldr (cfg : Configuration) (cut : Option Cursor) (s : State) : (s.closeWork cfg cut).ldr = s.ldr := by
  simp [State.closeWork]
@[simp] theorem State.closeWork_line (cfg : Configuration) (cut : Option Cursor) (s : State) : (s.closeWork cfg cut).line = s.line := by
  simp [State.closeWork]
@[simp] theorem State.closeWork_trk (cfg : Configuration) (cut : Option Cursor) (s : State) : (s.closeWork cfg cut).trk = s.trk := by
  simp [State.closeWork]
@[simp] theorem State.closeWork_rx (cfg : Configuration) (cut : Option Cursor) (s : State) : (s.closeWork cfg cut).rx = s.rx := by
  simp [State.closeWork]
@[simp] theorem State.closeWork_lineIn (cfg : Configuration) (cut : Option Cursor) (s : State) : (s.closeWork cfg cut).lineIn = s.lineIn := by
  simp [State.closeWork]
@[simp] theorem State.closeWork_cfgIn (cfg : Configuration) (cut : Option Cursor) (s : State) : (s.closeWork cfg cut).cfgIn = s.cfgIn := by
  simp [State.closeWork]
@[simp] theorem State.closeWork_contactIn (cfg : Configuration) (cut : Option Cursor) (s : State) : (s.closeWork cfg cut).contactIn = s.contactIn := by
  simp [State.closeWork]
@[simp] theorem State.closeWork_pending (cfg : Configuration) (cut : Option Cursor) (s : State) : (s.closeWork cfg cut).pending = s.pending := by
  simp [State.closeWork]
@[simp] theorem State.closeNormal_power (cfg : Configuration) (s : State) : (s.closeNormal cfg).power = s.power := by
  simp [State.closeNormal]
@[simp] theorem State.closeNormal_strap (cfg : Configuration) (s : State) : (s.closeNormal cfg).strap = s.strap := by
  simp [State.closeNormal]
@[simp] theorem State.closeNormal_tapSelectLow (cfg : Configuration) (s : State) : (s.closeNormal cfg).tapSelectLow = s.tapSelectLow := by
  simp [State.closeNormal]
@[simp] theorem State.closeNormal_inputPins (cfg : Configuration) (s : State) : (s.closeNormal cfg).inputPins = s.inputPins := by
  simp [State.closeNormal]
@[simp] theorem State.closeNormal_ldr (cfg : Configuration) (s : State) : (s.closeNormal cfg).ldr = s.ldr := by
  simp [State.closeNormal]
@[simp] theorem State.closeNormal_line (cfg : Configuration) (s : State) : (s.closeNormal cfg).line = s.line := by
  simp [State.closeNormal]
@[simp] theorem State.closeNormal_rx (cfg : Configuration) (s : State) : (s.closeNormal cfg).rx = s.rx := by
  simp [State.closeNormal]
@[simp] theorem State.closeNormal_lineIn (cfg : Configuration) (s : State) : (s.closeNormal cfg).lineIn = s.lineIn := by
  simp [State.closeNormal]
@[simp] theorem State.closeNormal_cfgIn (cfg : Configuration) (s : State) : (s.closeNormal cfg).cfgIn = s.cfgIn := by
  simp [State.closeNormal]
@[simp] theorem State.closeNormal_contactIn (cfg : Configuration) (s : State) : (s.closeNormal cfg).contactIn = s.contactIn := by
  simp [State.closeNormal]
@[simp] theorem State.closeNormal_pending (cfg : Configuration) (s : State) : (s.closeNormal cfg).pending = s.pending := by
  simp [State.closeNormal]
@[simp] theorem State.passedUnopened_power (cfg : Configuration) (s : State) : (s.passedUnopened cfg).power = s.power := by
  unfold State.passedUnopened; split <;> simp
@[simp] theorem State.passedUnopened_strap (cfg : Configuration) (s : State) : (s.passedUnopened cfg).strap = s.strap := by
  unfold State.passedUnopened; split <;> simp
@[simp] theorem State.passedUnopened_tapSelectLow (cfg : Configuration) (s : State) : (s.passedUnopened cfg).tapSelectLow = s.tapSelectLow := by
  unfold State.passedUnopened; split <;> simp
@[simp] theorem State.passedUnopened_inputPins (cfg : Configuration) (s : State) : (s.passedUnopened cfg).inputPins = s.inputPins := by
  unfold State.passedUnopened; split <;> simp
@[simp] theorem State.passedUnopened_ctl (cfg : Configuration) (s : State) : (s.passedUnopened cfg).ctl = s.ctl := by
  unfold State.passedUnopened; split <;> simp
@[simp] theorem State.passedUnopened_ldr (cfg : Configuration) (s : State) : (s.passedUnopened cfg).ldr = s.ldr := by
  unfold State.passedUnopened; split <;> simp
@[simp] theorem State.passedUnopened_img (cfg : Configuration) (s : State) : (s.passedUnopened cfg).img = s.img := by
  unfold State.passedUnopened; split <;> simp
@[simp] theorem State.passedUnopened_eng (cfg : Configuration) (s : State) : (s.passedUnopened cfg).eng = s.eng := by
  unfold State.passedUnopened; split <;> simp
@[simp] theorem State.passedUnopened_line (cfg : Configuration) (s : State) : (s.passedUnopened cfg).line = s.line := by
  unfold State.passedUnopened; split <;> simp
@[simp] theorem State.passedUnopened_trk (cfg : Configuration) (s : State) : (s.passedUnopened cfg).trk = s.trk := by
  unfold State.passedUnopened; split <;> simp
@[simp] theorem State.passedUnopened_rx (cfg : Configuration) (s : State) : (s.passedUnopened cfg).rx = s.rx := by
  unfold State.passedUnopened; split <;> simp
@[simp] theorem State.passedUnopened_tx (cfg : Configuration) (s : State) : (s.passedUnopened cfg).tx = s.tx := by
  unfold State.passedUnopened; split <;> simp
@[simp] theorem State.passedUnopened_inp (cfg : Configuration) (s : State) : (s.passedUnopened cfg).inp = s.inp := by
  unfold State.passedUnopened; split <;> simp
@[simp] theorem State.passedUnopened_within (cfg : Configuration) (s : State) : (s.passedUnopened cfg).within = s.within := by
  unfold State.passedUnopened; split <;> simp
@[simp] theorem State.passedUnopened_drv (cfg : Configuration) (s : State) : (s.passedUnopened cfg).drv = s.drv := by
  unfold State.passedUnopened; split <;> simp
@[simp] theorem State.passedUnopened_tap (cfg : Configuration) (s : State) : (s.passedUnopened cfg).tap = s.tap := by
  unfold State.passedUnopened; split <;> simp
@[simp] theorem State.passedUnopened_lineIn (cfg : Configuration) (s : State) : (s.passedUnopened cfg).lineIn = s.lineIn := by
  unfold State.passedUnopened; split <;> simp
@[simp] theorem State.passedUnopened_cfgIn (cfg : Configuration) (s : State) : (s.passedUnopened cfg).cfgIn = s.cfgIn := by
  unfold State.passedUnopened; split <;> simp
@[simp] theorem State.passedUnopened_contactIn (cfg : Configuration) (s : State) : (s.passedUnopened cfg).contactIn = s.contactIn := by
  unfold State.passedUnopened; split <;> simp
@[simp] theorem State.passedUnopened_pending (cfg : Configuration) (s : State) : (s.passedUnopened cfg).pending = s.pending := by
  unfold State.passedUnopened; split <;> simp
@[simp] theorem State.closeCut_power (cfg : Configuration) (cursor : Cursor) (s : State) : (s.closeCut cfg cursor).power = s.power := by
  simp only [State.closeCut]; split <;> simp
@[simp] theorem State.closeCut_strap (cfg : Configuration) (cursor : Cursor) (s : State) : (s.closeCut cfg cursor).strap = s.strap := by
  simp only [State.closeCut]; split <;> simp
@[simp] theorem State.closeCut_tapSelectLow (cfg : Configuration) (cursor : Cursor) (s : State) : (s.closeCut cfg cursor).tapSelectLow = s.tapSelectLow := by
  simp only [State.closeCut]; split <;> simp
@[simp] theorem State.closeCut_inputPins (cfg : Configuration) (cursor : Cursor) (s : State) : (s.closeCut cfg cursor).inputPins = s.inputPins := by
  simp only [State.closeCut]; split <;> simp
@[simp] theorem State.closeCut_ldr (cfg : Configuration) (cursor : Cursor) (s : State) : (s.closeCut cfg cursor).ldr = s.ldr := by
  simp only [State.closeCut]; split <;> simp
@[simp] theorem State.closeCut_line (cfg : Configuration) (cursor : Cursor) (s : State) : (s.closeCut cfg cursor).line = s.line := by
  simp only [State.closeCut]; split <;> simp
@[simp] theorem State.closeCut_rx (cfg : Configuration) (cursor : Cursor) (s : State) : (s.closeCut cfg cursor).rx = s.rx := by
  simp only [State.closeCut]; split <;> simp
@[simp] theorem State.closeCut_lineIn (cfg : Configuration) (cursor : Cursor) (s : State) : (s.closeCut cfg cursor).lineIn = s.lineIn := by
  simp only [State.closeCut]; split <;> simp
@[simp] theorem State.closeCut_cfgIn (cfg : Configuration) (cursor : Cursor) (s : State) : (s.closeCut cfg cursor).cfgIn = s.cfgIn := by
  simp only [State.closeCut]; split <;> simp
@[simp] theorem State.closeCut_contactIn (cfg : Configuration) (cursor : Cursor) (s : State) : (s.closeCut cfg cursor).contactIn = s.contactIn := by
  simp only [State.closeCut]; split <;> simp
@[simp] theorem State.closeCut_pending (cfg : Configuration) (cursor : Cursor) (s : State) : (s.closeCut cfg cursor).pending = s.pending := by
  simp only [State.closeCut]; split <;> simp

/-! ### The own slot and receptions (Chapters 4 and 5) -/

@[simp] theorem State.attemptLost_power (s : State) : (s.attemptLost).power = s.power := by
  simp only [State.attemptLost]; split
  · simp
  · split <;> simp
@[simp] theorem State.attemptLost_strap (s : State) : (s.attemptLost).strap = s.strap := by
  simp only [State.attemptLost]; split
  · simp
  · split <;> simp
@[simp] theorem State.attemptLost_tapSelectLow (s : State) : (s.attemptLost).tapSelectLow = s.tapSelectLow := by
  simp only [State.attemptLost]; split
  · simp
  · split <;> simp
@[simp] theorem State.attemptLost_inputPins (s : State) : (s.attemptLost).inputPins = s.inputPins := by
  simp only [State.attemptLost]; split
  · simp
  · split <;> simp
@[simp] theorem State.attemptLost_ldr (s : State) : (s.attemptLost).ldr = s.ldr := by
  simp only [State.attemptLost]; split
  · simp
  · split <;> simp
@[simp] theorem State.attemptLost_img (s : State) : (s.attemptLost).img = s.img := by
  simp only [State.attemptLost]; split
  · simp
  · split <;> simp
@[simp] theorem State.attemptLost_eng (s : State) : (s.attemptLost).eng = s.eng := by
  simp only [State.attemptLost]; split
  · simp
  · split <;> simp
@[simp] theorem State.attemptLost_rx (s : State) : (s.attemptLost).rx = s.rx := by
  simp only [State.attemptLost]; split
  · simp
  · split <;> simp
@[simp] theorem State.attemptLost_inp (s : State) : (s.attemptLost).inp = s.inp := by
  simp only [State.attemptLost]; split
  · simp
  · split <;> simp
@[simp] theorem State.attemptLost_within (s : State) : (s.attemptLost).within = s.within := by
  simp only [State.attemptLost]; split
  · simp
  · split <;> simp
@[simp] theorem State.attemptLost_lineIn (s : State) : (s.attemptLost).lineIn = s.lineIn := by
  simp only [State.attemptLost]; split
  · simp
  · split <;> simp
@[simp] theorem State.attemptLost_cfgIn (s : State) : (s.attemptLost).cfgIn = s.cfgIn := by
  simp only [State.attemptLost]; split
  · simp
  · split <;> simp
@[simp] theorem State.attemptLost_contactIn (s : State) : (s.attemptLost).contactIn = s.contactIn := by
  simp only [State.attemptLost]; split
  · simp
  · split <;> simp
@[simp] theorem State.attemptLost_pending (s : State) : (s.attemptLost).pending = s.pending := by
  simp only [State.attemptLost]; split
  · simp
  · split <;> simp
@[simp] theorem State.loseUnderMark_power (s : State) : (s.loseUnderMark).power = s.power := by
  unfold State.loseUnderMark; split <;> simp
@[simp] theorem State.loseUnderMark_strap (s : State) : (s.loseUnderMark).strap = s.strap := by
  unfold State.loseUnderMark; split <;> simp
@[simp] theorem State.loseUnderMark_tapSelectLow (s : State) : (s.loseUnderMark).tapSelectLow = s.tapSelectLow := by
  unfold State.loseUnderMark; split <;> simp
@[simp] theorem State.loseUnderMark_inputPins (s : State) : (s.loseUnderMark).inputPins = s.inputPins := by
  unfold State.loseUnderMark; split <;> simp
@[simp] theorem State.loseUnderMark_ldr (s : State) : (s.loseUnderMark).ldr = s.ldr := by
  unfold State.loseUnderMark; split <;> simp
@[simp] theorem State.loseUnderMark_img (s : State) : (s.loseUnderMark).img = s.img := by
  unfold State.loseUnderMark; split <;> simp
@[simp] theorem State.loseUnderMark_eng (s : State) : (s.loseUnderMark).eng = s.eng := by
  unfold State.loseUnderMark; split <;> simp
@[simp] theorem State.loseUnderMark_rx (s : State) : (s.loseUnderMark).rx = s.rx := by
  unfold State.loseUnderMark; split <;> simp
@[simp] theorem State.loseUnderMark_inp (s : State) : (s.loseUnderMark).inp = s.inp := by
  unfold State.loseUnderMark; split <;> simp
@[simp] theorem State.loseUnderMark_within (s : State) : (s.loseUnderMark).within = s.within := by
  unfold State.loseUnderMark; split <;> simp
@[simp] theorem State.loseUnderMark_lineIn (s : State) : (s.loseUnderMark).lineIn = s.lineIn := by
  unfold State.loseUnderMark; split <;> simp
@[simp] theorem State.loseUnderMark_cfgIn (s : State) : (s.loseUnderMark).cfgIn = s.cfgIn := by
  unfold State.loseUnderMark; split <;> simp
@[simp] theorem State.loseUnderMark_contactIn (s : State) : (s.loseUnderMark).contactIn = s.contactIn := by
  unfold State.loseUnderMark; split <;> simp
@[simp] theorem State.loseUnderMark_pending (s : State) : (s.loseUnderMark).pending = s.pending := by
  unfold State.loseUnderMark; split <;> simp
@[simp] theorem State.cutIfOpen_power (cfg : Configuration) (s : State) : (s.cutIfOpen cfg).power = s.power := by
  unfold State.cutIfOpen; split <;> simp
@[simp] theorem State.cutIfOpen_strap (cfg : Configuration) (s : State) : (s.cutIfOpen cfg).strap = s.strap := by
  unfold State.cutIfOpen; split <;> simp
@[simp] theorem State.cutIfOpen_tapSelectLow (cfg : Configuration) (s : State) : (s.cutIfOpen cfg).tapSelectLow = s.tapSelectLow := by
  unfold State.cutIfOpen; split <;> simp
@[simp] theorem State.cutIfOpen_inputPins (cfg : Configuration) (s : State) : (s.cutIfOpen cfg).inputPins = s.inputPins := by
  unfold State.cutIfOpen; split <;> simp
@[simp] theorem State.cutIfOpen_ldr (cfg : Configuration) (s : State) : (s.cutIfOpen cfg).ldr = s.ldr := by
  unfold State.cutIfOpen; split <;> simp
@[simp] theorem State.cutIfOpen_line (cfg : Configuration) (s : State) : (s.cutIfOpen cfg).line = s.line := by
  unfold State.cutIfOpen; split <;> simp
@[simp] theorem State.cutIfOpen_rx (cfg : Configuration) (s : State) : (s.cutIfOpen cfg).rx = s.rx := by
  unfold State.cutIfOpen; split <;> simp
@[simp] theorem State.cutIfOpen_lineIn (cfg : Configuration) (s : State) : (s.cutIfOpen cfg).lineIn = s.lineIn := by
  unfold State.cutIfOpen; split <;> simp
@[simp] theorem State.cutIfOpen_cfgIn (cfg : Configuration) (s : State) : (s.cutIfOpen cfg).cfgIn = s.cfgIn := by
  unfold State.cutIfOpen; split <;> simp
@[simp] theorem State.cutIfOpen_contactIn (cfg : Configuration) (s : State) : (s.cutIfOpen cfg).contactIn = s.contactIn := by
  unfold State.cutIfOpen; split <;> simp
@[simp] theorem State.cutIfOpen_pending (cfg : Configuration) (s : State) : (s.cutIfOpen cfg).pending = s.pending := by
  unfold State.cutIfOpen; split <;> simp
@[simp] theorem State.sawRecessive_power (s : State) : (s.sawRecessive).power = s.power := by
  unfold State.sawRecessive; split <;> simp
@[simp] theorem State.sawRecessive_strap (s : State) : (s.sawRecessive).strap = s.strap := by
  unfold State.sawRecessive; split <;> simp
@[simp] theorem State.sawRecessive_tapSelectLow (s : State) : (s.sawRecessive).tapSelectLow = s.tapSelectLow := by
  unfold State.sawRecessive; split <;> simp
@[simp] theorem State.sawRecessive_inputPins (s : State) : (s.sawRecessive).inputPins = s.inputPins := by
  unfold State.sawRecessive; split <;> simp
@[simp] theorem State.sawRecessive_ctl (s : State) : (s.sawRecessive).ctl = s.ctl := by
  unfold State.sawRecessive; split <;> simp
@[simp] theorem State.sawRecessive_ldr (s : State) : (s.sawRecessive).ldr = s.ldr := by
  unfold State.sawRecessive; split <;> simp
@[simp] theorem State.sawRecessive_img (s : State) : (s.sawRecessive).img = s.img := by
  unfold State.sawRecessive; split <;> simp
@[simp] theorem State.sawRecessive_eng (s : State) : (s.sawRecessive).eng = s.eng := by
  unfold State.sawRecessive; split <;> simp
@[simp] theorem State.sawRecessive_line (s : State) : (s.sawRecessive).line = s.line := by
  unfold State.sawRecessive; split <;> simp
@[simp] theorem State.sawRecessive_trk (s : State) : (s.sawRecessive).trk = s.trk := by
  unfold State.sawRecessive; split <;> simp
@[simp] theorem State.sawRecessive_tx (s : State) : (s.sawRecessive).tx = s.tx := by
  unfold State.sawRecessive; split <;> simp
@[simp] theorem State.sawRecessive_inp (s : State) : (s.sawRecessive).inp = s.inp := by
  unfold State.sawRecessive; split <;> simp
@[simp] theorem State.sawRecessive_within (s : State) : (s.sawRecessive).within = s.within := by
  unfold State.sawRecessive; split <;> simp
@[simp] theorem State.sawRecessive_drv (s : State) : (s.sawRecessive).drv = s.drv := by
  unfold State.sawRecessive; split <;> simp
@[simp] theorem State.sawRecessive_tap (s : State) : (s.sawRecessive).tap = s.tap := by
  unfold State.sawRecessive; split <;> simp
@[simp] theorem State.sawRecessive_cnt (s : State) : (s.sawRecessive).cnt = s.cnt := by
  unfold State.sawRecessive; split <;> simp
@[simp] theorem State.sawRecessive_lineIn (s : State) : (s.sawRecessive).lineIn = s.lineIn := by
  unfold State.sawRecessive; split <;> simp
@[simp] theorem State.sawRecessive_cfgIn (s : State) : (s.sawRecessive).cfgIn = s.cfgIn := by
  unfold State.sawRecessive; split <;> simp
@[simp] theorem State.sawRecessive_contactIn (s : State) : (s.sawRecessive).contactIn = s.contactIn := by
  unfold State.sawRecessive; split <;> simp
@[simp] theorem State.sawRecessive_pending (s : State) : (s.sawRecessive).pending = s.pending := by
  unfold State.sawRecessive; split <;> simp
@[simp] theorem State.openOwnSlot_power (cfg : Configuration) (s : State) : (s.openOwnSlot cfg).power = s.power := by
  unfold State.openOwnSlot; repeat' split
  all_goals simp
@[simp] theorem State.openOwnSlot_strap (cfg : Configuration) (s : State) : (s.openOwnSlot cfg).strap = s.strap := by
  unfold State.openOwnSlot; repeat' split
  all_goals simp
@[simp] theorem State.openOwnSlot_tapSelectLow (cfg : Configuration) (s : State) : (s.openOwnSlot cfg).tapSelectLow = s.tapSelectLow := by
  unfold State.openOwnSlot; repeat' split
  all_goals simp
@[simp] theorem State.openOwnSlot_inputPins (cfg : Configuration) (s : State) : (s.openOwnSlot cfg).inputPins = s.inputPins := by
  unfold State.openOwnSlot; repeat' split
  all_goals simp
@[simp] theorem State.openOwnSlot_ldr (cfg : Configuration) (s : State) : (s.openOwnSlot cfg).ldr = s.ldr := by
  unfold State.openOwnSlot; repeat' split
  all_goals simp
@[simp] theorem State.openOwnSlot_img (cfg : Configuration) (s : State) : (s.openOwnSlot cfg).img = s.img := by
  unfold State.openOwnSlot; repeat' split
  all_goals simp
@[simp] theorem State.openOwnSlot_eng (cfg : Configuration) (s : State) : (s.openOwnSlot cfg).eng = s.eng := by
  unfold State.openOwnSlot; repeat' split
  all_goals simp
@[simp] theorem State.openOwnSlot_line (cfg : Configuration) (s : State) : (s.openOwnSlot cfg).line = s.line := by
  unfold State.openOwnSlot; repeat' split
  all_goals simp
@[simp] theorem State.openOwnSlot_trk (cfg : Configuration) (s : State) : (s.openOwnSlot cfg).trk = s.trk := by
  unfold State.openOwnSlot; repeat' split
  all_goals simp
@[simp] theorem State.openOwnSlot_rx (cfg : Configuration) (s : State) : (s.openOwnSlot cfg).rx = s.rx := by
  unfold State.openOwnSlot; repeat' split
  all_goals simp
@[simp] theorem State.openOwnSlot_inp (cfg : Configuration) (s : State) : (s.openOwnSlot cfg).inp = s.inp := by
  unfold State.openOwnSlot; repeat' split
  all_goals simp
@[simp] theorem State.openOwnSlot_within (cfg : Configuration) (s : State) : (s.openOwnSlot cfg).within = s.within := by
  unfold State.openOwnSlot; repeat' split
  all_goals simp
@[simp] theorem State.openOwnSlot_drv (cfg : Configuration) (s : State) : (s.openOwnSlot cfg).drv = s.drv := by
  unfold State.openOwnSlot; repeat' split
  all_goals simp
@[simp] theorem State.openOwnSlot_tap (cfg : Configuration) (s : State) : (s.openOwnSlot cfg).tap = s.tap := by
  unfold State.openOwnSlot; repeat' split
  all_goals simp
@[simp] theorem State.openOwnSlot_cnt (cfg : Configuration) (s : State) : (s.openOwnSlot cfg).cnt = s.cnt := by
  unfold State.openOwnSlot; repeat' split
  all_goals simp
@[simp] theorem State.openOwnSlot_lineIn (cfg : Configuration) (s : State) : (s.openOwnSlot cfg).lineIn = s.lineIn := by
  unfold State.openOwnSlot; repeat' split
  all_goals simp
@[simp] theorem State.openOwnSlot_cfgIn (cfg : Configuration) (s : State) : (s.openOwnSlot cfg).cfgIn = s.cfgIn := by
  unfold State.openOwnSlot; repeat' split
  all_goals simp
@[simp] theorem State.openOwnSlot_contactIn (cfg : Configuration) (s : State) : (s.openOwnSlot cfg).contactIn = s.contactIn := by
  unfold State.openOwnSlot; repeat' split
  all_goals simp
@[simp] theorem State.openOwnSlot_pending (cfg : Configuration) (s : State) : (s.openOwnSlot cfg).pending = s.pending := by
  unfold State.openOwnSlot; repeat' split
  all_goals simp
@[simp] theorem State.boundary_power (cfg : Configuration) (cursor : Cursor) (s : State) : (s.boundary cfg cursor).power = s.power := by
  simp only [State.boundary]; repeat' split
  all_goals simp
@[simp] theorem State.boundary_strap (cfg : Configuration) (cursor : Cursor) (s : State) : (s.boundary cfg cursor).strap = s.strap := by
  simp only [State.boundary]; repeat' split
  all_goals simp
@[simp] theorem State.boundary_tapSelectLow (cfg : Configuration) (cursor : Cursor) (s : State) : (s.boundary cfg cursor).tapSelectLow = s.tapSelectLow := by
  simp only [State.boundary]; repeat' split
  all_goals simp
@[simp] theorem State.boundary_inputPins (cfg : Configuration) (cursor : Cursor) (s : State) : (s.boundary cfg cursor).inputPins = s.inputPins := by
  simp only [State.boundary]; repeat' split
  all_goals simp
@[simp] theorem State.boundary_ldr (cfg : Configuration) (cursor : Cursor) (s : State) : (s.boundary cfg cursor).ldr = s.ldr := by
  simp only [State.boundary]; repeat' split
  all_goals simp
@[simp] theorem State.boundary_line (cfg : Configuration) (cursor : Cursor) (s : State) : (s.boundary cfg cursor).line = s.line := by
  simp only [State.boundary]; repeat' split
  all_goals simp
@[simp] theorem State.boundary_rx (cfg : Configuration) (cursor : Cursor) (s : State) : (s.boundary cfg cursor).rx = s.rx := by
  simp only [State.boundary]; repeat' split
  all_goals simp
@[simp] theorem State.boundary_lineIn (cfg : Configuration) (cursor : Cursor) (s : State) : (s.boundary cfg cursor).lineIn = s.lineIn := by
  simp only [State.boundary]; repeat' split
  all_goals simp
@[simp] theorem State.boundary_cfgIn (cfg : Configuration) (cursor : Cursor) (s : State) : (s.boundary cfg cursor).cfgIn = s.cfgIn := by
  simp only [State.boundary]; repeat' split
  all_goals simp
@[simp] theorem State.boundary_contactIn (cfg : Configuration) (cursor : Cursor) (s : State) : (s.boundary cfg cursor).contactIn = s.contactIn := by
  simp only [State.boundary]; repeat' split
  all_goals simp
@[simp] theorem State.boundary_pending (cfg : Configuration) (cursor : Cursor) (s : State) : (s.boundary cfg cursor).pending = s.pending := by
  simp only [State.boundary]; repeat' split
  all_goals simp
@[simp] theorem State.foreignFrom_power (bit : Nat) (s : State) : (s.foreignFrom bit).power = s.power := by
  unfold State.foreignFrom; split <;> simp
@[simp] theorem State.foreignFrom_strap (bit : Nat) (s : State) : (s.foreignFrom bit).strap = s.strap := by
  unfold State.foreignFrom; split <;> simp
@[simp] theorem State.foreignFrom_tapSelectLow (bit : Nat) (s : State) : (s.foreignFrom bit).tapSelectLow = s.tapSelectLow := by
  unfold State.foreignFrom; split <;> simp
@[simp] theorem State.foreignFrom_inputPins (bit : Nat) (s : State) : (s.foreignFrom bit).inputPins = s.inputPins := by
  unfold State.foreignFrom; split <;> simp
@[simp] theorem State.foreignFrom_ctl (bit : Nat) (s : State) : (s.foreignFrom bit).ctl = s.ctl := by
  unfold State.foreignFrom; split <;> simp
@[simp] theorem State.foreignFrom_ldr (bit : Nat) (s : State) : (s.foreignFrom bit).ldr = s.ldr := by
  unfold State.foreignFrom; split <;> simp
@[simp] theorem State.foreignFrom_img (bit : Nat) (s : State) : (s.foreignFrom bit).img = s.img := by
  unfold State.foreignFrom; split <;> simp
@[simp] theorem State.foreignFrom_eng (bit : Nat) (s : State) : (s.foreignFrom bit).eng = s.eng := by
  unfold State.foreignFrom; split <;> simp
@[simp] theorem State.foreignFrom_line (bit : Nat) (s : State) : (s.foreignFrom bit).line = s.line := by
  unfold State.foreignFrom; split <;> simp
@[simp] theorem State.foreignFrom_trk (bit : Nat) (s : State) : (s.foreignFrom bit).trk = s.trk := by
  unfold State.foreignFrom; split <;> simp
@[simp] theorem State.foreignFrom_tx (bit : Nat) (s : State) : (s.foreignFrom bit).tx = s.tx := by
  unfold State.foreignFrom; split <;> simp
@[simp] theorem State.foreignFrom_inp (bit : Nat) (s : State) : (s.foreignFrom bit).inp = s.inp := by
  unfold State.foreignFrom; split <;> simp
@[simp] theorem State.foreignFrom_within (bit : Nat) (s : State) : (s.foreignFrom bit).within = s.within := by
  unfold State.foreignFrom; split <;> simp
@[simp] theorem State.foreignFrom_drv (bit : Nat) (s : State) : (s.foreignFrom bit).drv = s.drv := by
  unfold State.foreignFrom; split <;> simp
@[simp] theorem State.foreignFrom_tap (bit : Nat) (s : State) : (s.foreignFrom bit).tap = s.tap := by
  unfold State.foreignFrom; split <;> simp
@[simp] theorem State.foreignFrom_cnt (bit : Nat) (s : State) : (s.foreignFrom bit).cnt = s.cnt := by
  unfold State.foreignFrom; split <;> simp
@[simp] theorem State.foreignFrom_lineIn (bit : Nat) (s : State) : (s.foreignFrom bit).lineIn = s.lineIn := by
  unfold State.foreignFrom; split <;> simp
@[simp] theorem State.foreignFrom_cfgIn (bit : Nat) (s : State) : (s.foreignFrom bit).cfgIn = s.cfgIn := by
  unfold State.foreignFrom; split <;> simp
@[simp] theorem State.foreignFrom_contactIn (bit : Nat) (s : State) : (s.foreignFrom bit).contactIn = s.contactIn := by
  unfold State.foreignFrom; split <;> simp
@[simp] theorem State.foreignFrom_pending (bit : Nat) (s : State) : (s.foreignFrom bit).pending = s.pending := by
  unfold State.foreignFrom; split <;> simp
@[simp] theorem State.attemptWasSent_power (s : State) : (s.attemptWasSent).power = s.power := by
  simp only [State.attemptWasSent]; split <;> simp
@[simp] theorem State.attemptWasSent_strap (s : State) : (s.attemptWasSent).strap = s.strap := by
  simp only [State.attemptWasSent]; split <;> simp
@[simp] theorem State.attemptWasSent_tapSelectLow (s : State) : (s.attemptWasSent).tapSelectLow = s.tapSelectLow := by
  simp only [State.attemptWasSent]; split <;> simp
@[simp] theorem State.attemptWasSent_inputPins (s : State) : (s.attemptWasSent).inputPins = s.inputPins := by
  simp only [State.attemptWasSent]; split <;> simp
@[simp] theorem State.attemptWasSent_ldr (s : State) : (s.attemptWasSent).ldr = s.ldr := by
  simp only [State.attemptWasSent]; split <;> simp
@[simp] theorem State.attemptWasSent_img (s : State) : (s.attemptWasSent).img = s.img := by
  simp only [State.attemptWasSent]; split <;> simp
@[simp] theorem State.attemptWasSent_eng (s : State) : (s.attemptWasSent).eng = s.eng := by
  simp only [State.attemptWasSent]; split <;> simp
@[simp] theorem State.attemptWasSent_line (s : State) : (s.attemptWasSent).line = s.line := by
  simp only [State.attemptWasSent]; split <;> simp
@[simp] theorem State.attemptWasSent_trk (s : State) : (s.attemptWasSent).trk = s.trk := by
  simp only [State.attemptWasSent]; split <;> simp
@[simp] theorem State.attemptWasSent_rx (s : State) : (s.attemptWasSent).rx = s.rx := by
  simp only [State.attemptWasSent]; split <;> simp
@[simp] theorem State.attemptWasSent_inp (s : State) : (s.attemptWasSent).inp = s.inp := by
  simp only [State.attemptWasSent]; split <;> simp
@[simp] theorem State.attemptWasSent_within (s : State) : (s.attemptWasSent).within = s.within := by
  simp only [State.attemptWasSent]; split <;> simp
@[simp] theorem State.attemptWasSent_lineIn (s : State) : (s.attemptWasSent).lineIn = s.lineIn := by
  simp only [State.attemptWasSent]; split <;> simp
@[simp] theorem State.attemptWasSent_cfgIn (s : State) : (s.attemptWasSent).cfgIn = s.cfgIn := by
  simp only [State.attemptWasSent]; split <;> simp
@[simp] theorem State.attemptWasSent_contactIn (s : State) : (s.attemptWasSent).contactIn = s.contactIn := by
  simp only [State.attemptWasSent]; split <;> simp
@[simp] theorem State.attemptWasSent_pending (s : State) : (s.attemptWasSent).pending = s.pending := by
  simp only [State.attemptWasSent]; split <;> simp
@[simp] theorem State.settleTakenOver_power (own : Bool) (s : State) : (s.settleTakenOver own).power = s.power := by
  unfold State.settleTakenOver; repeat' split
  all_goals simp
@[simp] theorem State.settleTakenOver_strap (own : Bool) (s : State) : (s.settleTakenOver own).strap = s.strap := by
  unfold State.settleTakenOver; repeat' split
  all_goals simp
@[simp] theorem State.settleTakenOver_tapSelectLow (own : Bool) (s : State) : (s.settleTakenOver own).tapSelectLow = s.tapSelectLow := by
  unfold State.settleTakenOver; repeat' split
  all_goals simp
@[simp] theorem State.settleTakenOver_inputPins (own : Bool) (s : State) : (s.settleTakenOver own).inputPins = s.inputPins := by
  unfold State.settleTakenOver; repeat' split
  all_goals simp
@[simp] theorem State.settleTakenOver_ldr (own : Bool) (s : State) : (s.settleTakenOver own).ldr = s.ldr := by
  unfold State.settleTakenOver; repeat' split
  all_goals simp
@[simp] theorem State.settleTakenOver_img (own : Bool) (s : State) : (s.settleTakenOver own).img = s.img := by
  unfold State.settleTakenOver; repeat' split
  all_goals simp
@[simp] theorem State.settleTakenOver_eng (own : Bool) (s : State) : (s.settleTakenOver own).eng = s.eng := by
  unfold State.settleTakenOver; repeat' split
  all_goals simp
@[simp] theorem State.settleTakenOver_rx (own : Bool) (s : State) : (s.settleTakenOver own).rx = s.rx := by
  unfold State.settleTakenOver; repeat' split
  all_goals simp
@[simp] theorem State.settleTakenOver_inp (own : Bool) (s : State) : (s.settleTakenOver own).inp = s.inp := by
  unfold State.settleTakenOver; repeat' split
  all_goals simp
@[simp] theorem State.settleTakenOver_within (own : Bool) (s : State) : (s.settleTakenOver own).within = s.within := by
  unfold State.settleTakenOver; repeat' split
  all_goals simp
@[simp] theorem State.settleTakenOver_lineIn (own : Bool) (s : State) : (s.settleTakenOver own).lineIn = s.lineIn := by
  unfold State.settleTakenOver; repeat' split
  all_goals simp
@[simp] theorem State.settleTakenOver_cfgIn (own : Bool) (s : State) : (s.settleTakenOver own).cfgIn = s.cfgIn := by
  unfold State.settleTakenOver; repeat' split
  all_goals simp
@[simp] theorem State.settleTakenOver_contactIn (own : Bool) (s : State) : (s.settleTakenOver own).contactIn = s.contactIn := by
  unfold State.settleTakenOver; repeat' split
  all_goals simp
@[simp] theorem State.settleTakenOver_pending (own : Bool) (s : State) : (s.settleTakenOver own).pending = s.pending := by
  unfold State.settleTakenOver; repeat' split
  all_goals simp
@[simp] theorem State.noteSighting_power (s : State) : (s.noteSighting).power = s.power := by
  unfold State.noteSighting; split <;> simp
@[simp] theorem State.noteSighting_strap (s : State) : (s.noteSighting).strap = s.strap := by
  unfold State.noteSighting; split <;> simp
@[simp] theorem State.noteSighting_tapSelectLow (s : State) : (s.noteSighting).tapSelectLow = s.tapSelectLow := by
  unfold State.noteSighting; split <;> simp
@[simp] theorem State.noteSighting_inputPins (s : State) : (s.noteSighting).inputPins = s.inputPins := by
  unfold State.noteSighting; split <;> simp
@[simp] theorem State.noteSighting_ldr (s : State) : (s.noteSighting).ldr = s.ldr := by
  unfold State.noteSighting; split <;> simp
@[simp] theorem State.noteSighting_img (s : State) : (s.noteSighting).img = s.img := by
  unfold State.noteSighting; split <;> simp
@[simp] theorem State.noteSighting_eng (s : State) : (s.noteSighting).eng = s.eng := by
  unfold State.noteSighting; split <;> simp
@[simp] theorem State.noteSighting_line (s : State) : (s.noteSighting).line = s.line := by
  unfold State.noteSighting; split <;> simp
@[simp] theorem State.noteSighting_trk (s : State) : (s.noteSighting).trk = s.trk := by
  unfold State.noteSighting; split <;> simp
@[simp] theorem State.noteSighting_rx (s : State) : (s.noteSighting).rx = s.rx := by
  unfold State.noteSighting; split <;> simp
@[simp] theorem State.noteSighting_inp (s : State) : (s.noteSighting).inp = s.inp := by
  unfold State.noteSighting; split <;> simp
@[simp] theorem State.noteSighting_within (s : State) : (s.noteSighting).within = s.within := by
  unfold State.noteSighting; split <;> simp
@[simp] theorem State.noteSighting_cnt (s : State) : (s.noteSighting).cnt = s.cnt := by
  unfold State.noteSighting; split <;> simp
@[simp] theorem State.noteSighting_lineIn (s : State) : (s.noteSighting).lineIn = s.lineIn := by
  unfold State.noteSighting; split <;> simp
@[simp] theorem State.noteSighting_cfgIn (s : State) : (s.noteSighting).cfgIn = s.cfgIn := by
  unfold State.noteSighting; split <;> simp
@[simp] theorem State.noteSighting_contactIn (s : State) : (s.noteSighting).contactIn = s.contactIn := by
  unfold State.noteSighting; split <;> simp
@[simp] theorem State.noteSighting_pending (s : State) : (s.noteSighting).pending = s.pending := by
  unfold State.noteSighting; split <;> simp
@[simp] theorem State.sighting_power (cfg : Configuration) (kind : FrameKind) (h : Header) (s : State) : (s.sighting cfg kind h).power = s.power := by
  simp [State.sighting]
@[simp] theorem State.sighting_strap (cfg : Configuration) (kind : FrameKind) (h : Header) (s : State) : (s.sighting cfg kind h).strap = s.strap := by
  simp [State.sighting]
@[simp] theorem State.sighting_tapSelectLow (cfg : Configuration) (kind : FrameKind) (h : Header) (s : State) : (s.sighting cfg kind h).tapSelectLow = s.tapSelectLow := by
  simp [State.sighting]
@[simp] theorem State.sighting_inputPins (cfg : Configuration) (kind : FrameKind) (h : Header) (s : State) : (s.sighting cfg kind h).inputPins = s.inputPins := by
  simp [State.sighting]
@[simp] theorem State.sighting_ldr (cfg : Configuration) (kind : FrameKind) (h : Header) (s : State) : (s.sighting cfg kind h).ldr = s.ldr := by
  simp [State.sighting]
@[simp] theorem State.sighting_eng (cfg : Configuration) (kind : FrameKind) (h : Header) (s : State) : (s.sighting cfg kind h).eng = s.eng := by
  simp [State.sighting]
@[simp] theorem State.sighting_line (cfg : Configuration) (kind : FrameKind) (h : Header) (s : State) : (s.sighting cfg kind h).line = s.line := by
  simp [State.sighting]
@[simp] theorem State.sighting_trk (cfg : Configuration) (kind : FrameKind) (h : Header) (s : State) : (s.sighting cfg kind h).trk = s.trk := by
  simp [State.sighting]
@[simp] theorem State.sighting_rx (cfg : Configuration) (kind : FrameKind) (h : Header) (s : State) : (s.sighting cfg kind h).rx = s.rx := by
  simp [State.sighting]
@[simp] theorem State.sighting_inp (cfg : Configuration) (kind : FrameKind) (h : Header) (s : State) : (s.sighting cfg kind h).inp = s.inp := by
  simp [State.sighting]
@[simp] theorem State.sighting_within (cfg : Configuration) (kind : FrameKind) (h : Header) (s : State) : (s.sighting cfg kind h).within = s.within := by
  simp [State.sighting]
@[simp] theorem State.sighting_cnt (cfg : Configuration) (kind : FrameKind) (h : Header) (s : State) : (s.sighting cfg kind h).cnt = s.cnt := by
  simp [State.sighting]
@[simp] theorem State.sighting_lineIn (cfg : Configuration) (kind : FrameKind) (h : Header) (s : State) : (s.sighting cfg kind h).lineIn = s.lineIn := by
  simp [State.sighting]
@[simp] theorem State.sighting_cfgIn (cfg : Configuration) (kind : FrameKind) (h : Header) (s : State) : (s.sighting cfg kind h).cfgIn = s.cfgIn := by
  simp [State.sighting]
@[simp] theorem State.sighting_contactIn (cfg : Configuration) (kind : FrameKind) (h : Header) (s : State) : (s.sighting cfg kind h).contactIn = s.contactIn := by
  simp [State.sighting]
@[simp] theorem State.sighting_pending (cfg : Configuration) (kind : FrameKind) (h : Header) (s : State) : (s.sighting cfg kind h).pending = s.pending := by
  simp [State.sighting]
@[simp] theorem State.handOn_power (cfg : Configuration) (kind : FrameKind) (h : Header) (points : List Byte) (s : State) : (s.handOn cfg kind h points).power = s.power := by
  unfold State.handOn; repeat' split
  all_goals simp
@[simp] theorem State.handOn_strap (cfg : Configuration) (kind : FrameKind) (h : Header) (points : List Byte) (s : State) : (s.handOn cfg kind h points).strap = s.strap := by
  unfold State.handOn; repeat' split
  all_goals simp
@[simp] theorem State.handOn_tapSelectLow (cfg : Configuration) (kind : FrameKind) (h : Header) (points : List Byte) (s : State) : (s.handOn cfg kind h points).tapSelectLow = s.tapSelectLow := by
  unfold State.handOn; repeat' split
  all_goals simp
@[simp] theorem State.handOn_inputPins (cfg : Configuration) (kind : FrameKind) (h : Header) (points : List Byte) (s : State) : (s.handOn cfg kind h points).inputPins = s.inputPins := by
  unfold State.handOn; repeat' split
  all_goals simp
@[simp] theorem State.handOn_ldr (cfg : Configuration) (kind : FrameKind) (h : Header) (points : List Byte) (s : State) : (s.handOn cfg kind h points).ldr = s.ldr := by
  unfold State.handOn; repeat' split
  all_goals simp
@[simp] theorem State.handOn_eng (cfg : Configuration) (kind : FrameKind) (h : Header) (points : List Byte) (s : State) : (s.handOn cfg kind h points).eng = s.eng := by
  unfold State.handOn; repeat' split
  all_goals simp
@[simp] theorem State.handOn_line (cfg : Configuration) (kind : FrameKind) (h : Header) (points : List Byte) (s : State) : (s.handOn cfg kind h points).line = s.line := by
  unfold State.handOn; repeat' split
  all_goals simp
@[simp] theorem State.handOn_trk (cfg : Configuration) (kind : FrameKind) (h : Header) (points : List Byte) (s : State) : (s.handOn cfg kind h points).trk = s.trk := by
  unfold State.handOn; repeat' split
  all_goals simp
@[simp] theorem State.handOn_rx (cfg : Configuration) (kind : FrameKind) (h : Header) (points : List Byte) (s : State) : (s.handOn cfg kind h points).rx = s.rx := by
  unfold State.handOn; repeat' split
  all_goals simp
@[simp] theorem State.handOn_inp (cfg : Configuration) (kind : FrameKind) (h : Header) (points : List Byte) (s : State) : (s.handOn cfg kind h points).inp = s.inp := by
  unfold State.handOn; repeat' split
  all_goals simp
@[simp] theorem State.handOn_within (cfg : Configuration) (kind : FrameKind) (h : Header) (points : List Byte) (s : State) : (s.handOn cfg kind h points).within = s.within := by
  unfold State.handOn; repeat' split
  all_goals simp
@[simp] theorem State.handOn_lineIn (cfg : Configuration) (kind : FrameKind) (h : Header) (points : List Byte) (s : State) : (s.handOn cfg kind h points).lineIn = s.lineIn := by
  unfold State.handOn; repeat' split
  all_goals simp
@[simp] theorem State.handOn_cfgIn (cfg : Configuration) (kind : FrameKind) (h : Header) (points : List Byte) (s : State) : (s.handOn cfg kind h points).cfgIn = s.cfgIn := by
  unfold State.handOn; repeat' split
  all_goals simp
@[simp] theorem State.handOn_contactIn (cfg : Configuration) (kind : FrameKind) (h : Header) (points : List Byte) (s : State) : (s.handOn cfg kind h points).contactIn = s.contactIn := by
  unfold State.handOn; repeat' split
  all_goals simp
@[simp] theorem State.handOn_pending (cfg : Configuration) (kind : FrameKind) (h : Header) (points : List Byte) (s : State) : (s.handOn cfg kind h points).pending = s.pending := by
  unfold State.handOn; repeat' split
  all_goals simp
@[simp] theorem State.slip_power (cfg : Configuration) (cursor : Cursor) (n : StationNo) (s : State) : (s.slip cfg cursor n).power = s.power := by
  simp only [State.slip]; split <;> simp
@[simp] theorem State.slip_strap (cfg : Configuration) (cursor : Cursor) (n : StationNo) (s : State) : (s.slip cfg cursor n).strap = s.strap := by
  simp only [State.slip]; split <;> simp
@[simp] theorem State.slip_tapSelectLow (cfg : Configuration) (cursor : Cursor) (n : StationNo) (s : State) : (s.slip cfg cursor n).tapSelectLow = s.tapSelectLow := by
  simp only [State.slip]; split <;> simp
@[simp] theorem State.slip_inputPins (cfg : Configuration) (cursor : Cursor) (n : StationNo) (s : State) : (s.slip cfg cursor n).inputPins = s.inputPins := by
  simp only [State.slip]; split <;> simp
@[simp] theorem State.slip_ctl (cfg : Configuration) (cursor : Cursor) (n : StationNo) (s : State) : (s.slip cfg cursor n).ctl = s.ctl := by
  simp only [State.slip]; split <;> simp
@[simp] theorem State.slip_ldr (cfg : Configuration) (cursor : Cursor) (n : StationNo) (s : State) : (s.slip cfg cursor n).ldr = s.ldr := by
  simp only [State.slip]; split <;> simp
@[simp] theorem State.slip_img (cfg : Configuration) (cursor : Cursor) (n : StationNo) (s : State) : (s.slip cfg cursor n).img = s.img := by
  simp only [State.slip]; split <;> simp
@[simp] theorem State.slip_eng (cfg : Configuration) (cursor : Cursor) (n : StationNo) (s : State) : (s.slip cfg cursor n).eng = s.eng := by
  simp only [State.slip]; split <;> simp
@[simp] theorem State.slip_line (cfg : Configuration) (cursor : Cursor) (n : StationNo) (s : State) : (s.slip cfg cursor n).line = s.line := by
  simp only [State.slip]; split <;> simp
@[simp] theorem State.slip_rx (cfg : Configuration) (cursor : Cursor) (n : StationNo) (s : State) : (s.slip cfg cursor n).rx = s.rx := by
  simp only [State.slip]; split <;> simp
@[simp] theorem State.slip_tx (cfg : Configuration) (cursor : Cursor) (n : StationNo) (s : State) : (s.slip cfg cursor n).tx = s.tx := by
  simp only [State.slip]; split <;> simp
@[simp] theorem State.slip_inp (cfg : Configuration) (cursor : Cursor) (n : StationNo) (s : State) : (s.slip cfg cursor n).inp = s.inp := by
  simp only [State.slip]; split <;> simp
@[simp] theorem State.slip_within (cfg : Configuration) (cursor : Cursor) (n : StationNo) (s : State) : (s.slip cfg cursor n).within = s.within := by
  simp only [State.slip]; split <;> simp
@[simp] theorem State.slip_drv (cfg : Configuration) (cursor : Cursor) (n : StationNo) (s : State) : (s.slip cfg cursor n).drv = s.drv := by
  simp only [State.slip]; split <;> simp
@[simp] theorem State.slip_tap (cfg : Configuration) (cursor : Cursor) (n : StationNo) (s : State) : (s.slip cfg cursor n).tap = s.tap := by
  simp only [State.slip]; split <;> simp
@[simp] theorem State.slip_lineIn (cfg : Configuration) (cursor : Cursor) (n : StationNo) (s : State) : (s.slip cfg cursor n).lineIn = s.lineIn := by
  simp only [State.slip]; split <;> simp
@[simp] theorem State.slip_cfgIn (cfg : Configuration) (cursor : Cursor) (n : StationNo) (s : State) : (s.slip cfg cursor n).cfgIn = s.cfgIn := by
  simp only [State.slip]; split <;> simp
@[simp] theorem State.slip_contactIn (cfg : Configuration) (cursor : Cursor) (n : StationNo) (s : State) : (s.slip cfg cursor n).contactIn = s.contactIn := by
  simp only [State.slip]; split <;> simp
@[simp] theorem State.slip_pending (cfg : Configuration) (cursor : Cursor) (n : StationNo) (s : State) : (s.slip cfg cursor n).pending = s.pending := by
  simp only [State.slip]; split <;> simp
@[simp] theorem State.sortFrame_power (cfg : Configuration) (start : Walk) (kind : FrameKind) (h : Header) (points : List Byte) (s : State) : (s.sortFrame cfg start kind h points).power = s.power := by
  unfold State.sortFrame; repeat' split
  all_goals simp
@[simp] theorem State.sortFrame_strap (cfg : Configuration) (start : Walk) (kind : FrameKind) (h : Header) (points : List Byte) (s : State) : (s.sortFrame cfg start kind h points).strap = s.strap := by
  unfold State.sortFrame; repeat' split
  all_goals simp
@[simp] theorem State.sortFrame_tapSelectLow (cfg : Configuration) (start : Walk) (kind : FrameKind) (h : Header) (points : List Byte) (s : State) : (s.sortFrame cfg start kind h points).tapSelectLow = s.tapSelectLow := by
  unfold State.sortFrame; repeat' split
  all_goals simp
@[simp] theorem State.sortFrame_inputPins (cfg : Configuration) (start : Walk) (kind : FrameKind) (h : Header) (points : List Byte) (s : State) : (s.sortFrame cfg start kind h points).inputPins = s.inputPins := by
  unfold State.sortFrame; repeat' split
  all_goals simp
@[simp] theorem State.sortFrame_ldr (cfg : Configuration) (start : Walk) (kind : FrameKind) (h : Header) (points : List Byte) (s : State) : (s.sortFrame cfg start kind h points).ldr = s.ldr := by
  unfold State.sortFrame; repeat' split
  all_goals simp
@[simp] theorem State.sortFrame_eng (cfg : Configuration) (start : Walk) (kind : FrameKind) (h : Header) (points : List Byte) (s : State) : (s.sortFrame cfg start kind h points).eng = s.eng := by
  unfold State.sortFrame; repeat' split
  all_goals simp
@[simp] theorem State.sortFrame_line (cfg : Configuration) (start : Walk) (kind : FrameKind) (h : Header) (points : List Byte) (s : State) : (s.sortFrame cfg start kind h points).line = s.line := by
  unfold State.sortFrame; repeat' split
  all_goals simp
@[simp] theorem State.sortFrame_rx (cfg : Configuration) (start : Walk) (kind : FrameKind) (h : Header) (points : List Byte) (s : State) : (s.sortFrame cfg start kind h points).rx = s.rx := by
  unfold State.sortFrame; repeat' split
  all_goals simp
@[simp] theorem State.sortFrame_inp (cfg : Configuration) (start : Walk) (kind : FrameKind) (h : Header) (points : List Byte) (s : State) : (s.sortFrame cfg start kind h points).inp = s.inp := by
  unfold State.sortFrame; repeat' split
  all_goals simp
@[simp] theorem State.sortFrame_within (cfg : Configuration) (start : Walk) (kind : FrameKind) (h : Header) (points : List Byte) (s : State) : (s.sortFrame cfg start kind h points).within = s.within := by
  unfold State.sortFrame; repeat' split
  all_goals simp
@[simp] theorem State.sortFrame_lineIn (cfg : Configuration) (start : Walk) (kind : FrameKind) (h : Header) (points : List Byte) (s : State) : (s.sortFrame cfg start kind h points).lineIn = s.lineIn := by
  unfold State.sortFrame; repeat' split
  all_goals simp
@[simp] theorem State.sortFrame_cfgIn (cfg : Configuration) (start : Walk) (kind : FrameKind) (h : Header) (points : List Byte) (s : State) : (s.sortFrame cfg start kind h points).cfgIn = s.cfgIn := by
  unfold State.sortFrame; repeat' split
  all_goals simp
@[simp] theorem State.sortFrame_contactIn (cfg : Configuration) (start : Walk) (kind : FrameKind) (h : Header) (points : List Byte) (s : State) : (s.sortFrame cfg start kind h points).contactIn = s.contactIn := by
  unfold State.sortFrame; repeat' split
  all_goals simp
@[simp] theorem State.sortFrame_pending (cfg : Configuration) (start : Walk) (kind : FrameKind) (h : Header) (points : List Byte) (s : State) : (s.sortFrame cfg start kind h points).pending = s.pending := by
  unfold State.sortFrame; repeat' split
  all_goals simp
@[simp] theorem State.countAndSort_power (cfg : Configuration) (start : Walk) (v : Verdict) (s : State) : (s.countAndSort cfg start v).power = s.power := by
  unfold State.countAndSort; repeat' split
  all_goals simp
@[simp] theorem State.countAndSort_strap (cfg : Configuration) (start : Walk) (v : Verdict) (s : State) : (s.countAndSort cfg start v).strap = s.strap := by
  unfold State.countAndSort; repeat' split
  all_goals simp
@[simp] theorem State.countAndSort_tapSelectLow (cfg : Configuration) (start : Walk) (v : Verdict) (s : State) : (s.countAndSort cfg start v).tapSelectLow = s.tapSelectLow := by
  unfold State.countAndSort; repeat' split
  all_goals simp
@[simp] theorem State.countAndSort_inputPins (cfg : Configuration) (start : Walk) (v : Verdict) (s : State) : (s.countAndSort cfg start v).inputPins = s.inputPins := by
  unfold State.countAndSort; repeat' split
  all_goals simp
@[simp] theorem State.countAndSort_ldr (cfg : Configuration) (start : Walk) (v : Verdict) (s : State) : (s.countAndSort cfg start v).ldr = s.ldr := by
  unfold State.countAndSort; repeat' split
  all_goals simp
@[simp] theorem State.countAndSort_eng (cfg : Configuration) (start : Walk) (v : Verdict) (s : State) : (s.countAndSort cfg start v).eng = s.eng := by
  unfold State.countAndSort; repeat' split
  all_goals simp
@[simp] theorem State.countAndSort_line (cfg : Configuration) (start : Walk) (v : Verdict) (s : State) : (s.countAndSort cfg start v).line = s.line := by
  unfold State.countAndSort; repeat' split
  all_goals simp
@[simp] theorem State.countAndSort_rx (cfg : Configuration) (start : Walk) (v : Verdict) (s : State) : (s.countAndSort cfg start v).rx = s.rx := by
  unfold State.countAndSort; repeat' split
  all_goals simp
@[simp] theorem State.countAndSort_inp (cfg : Configuration) (start : Walk) (v : Verdict) (s : State) : (s.countAndSort cfg start v).inp = s.inp := by
  unfold State.countAndSort; repeat' split
  all_goals simp
@[simp] theorem State.countAndSort_within (cfg : Configuration) (start : Walk) (v : Verdict) (s : State) : (s.countAndSort cfg start v).within = s.within := by
  unfold State.countAndSort; repeat' split
  all_goals simp
@[simp] theorem State.countAndSort_lineIn (cfg : Configuration) (start : Walk) (v : Verdict) (s : State) : (s.countAndSort cfg start v).lineIn = s.lineIn := by
  unfold State.countAndSort; repeat' split
  all_goals simp
@[simp] theorem State.countAndSort_cfgIn (cfg : Configuration) (start : Walk) (v : Verdict) (s : State) : (s.countAndSort cfg start v).cfgIn = s.cfgIn := by
  unfold State.countAndSort; repeat' split
  all_goals simp
@[simp] theorem State.countAndSort_contactIn (cfg : Configuration) (start : Walk) (v : Verdict) (s : State) : (s.countAndSort cfg start v).contactIn = s.contactIn := by
  unfold State.countAndSort; repeat' split
  all_goals simp
@[simp] theorem State.countAndSort_pending (cfg : Configuration) (start : Walk) (v : Verdict) (s : State) : (s.countAndSort cfg start v).pending = s.pending := by
  unfold State.countAndSort; repeat' split
  all_goals simp
@[simp] theorem State.foreignFrame_power (cfg : Configuration) (start : Walk) (body : List Byte) (lossFirst : Bool) (s : State) : (s.foreignFrame cfg start body lossFirst).power = s.power := by
  simp only [State.foreignFrame]; split <;> simp
@[simp] theorem State.foreignFrame_strap (cfg : Configuration) (start : Walk) (body : List Byte) (lossFirst : Bool) (s : State) : (s.foreignFrame cfg start body lossFirst).strap = s.strap := by
  simp only [State.foreignFrame]; split <;> simp
@[simp] theorem State.foreignFrame_tapSelectLow (cfg : Configuration) (start : Walk) (body : List Byte) (lossFirst : Bool) (s : State) : (s.foreignFrame cfg start body lossFirst).tapSelectLow = s.tapSelectLow := by
  simp only [State.foreignFrame]; split <;> simp
@[simp] theorem State.foreignFrame_inputPins (cfg : Configuration) (start : Walk) (body : List Byte) (lossFirst : Bool) (s : State) : (s.foreignFrame cfg start body lossFirst).inputPins = s.inputPins := by
  simp only [State.foreignFrame]; split <;> simp
@[simp] theorem State.foreignFrame_ldr (cfg : Configuration) (start : Walk) (body : List Byte) (lossFirst : Bool) (s : State) : (s.foreignFrame cfg start body lossFirst).ldr = s.ldr := by
  simp only [State.foreignFrame]; split <;> simp
@[simp] theorem State.foreignFrame_eng (cfg : Configuration) (start : Walk) (body : List Byte) (lossFirst : Bool) (s : State) : (s.foreignFrame cfg start body lossFirst).eng = s.eng := by
  simp only [State.foreignFrame]; split <;> simp
@[simp] theorem State.foreignFrame_rx (cfg : Configuration) (start : Walk) (body : List Byte) (lossFirst : Bool) (s : State) : (s.foreignFrame cfg start body lossFirst).rx = s.rx := by
  simp only [State.foreignFrame]; split <;> simp
@[simp] theorem State.foreignFrame_inp (cfg : Configuration) (start : Walk) (body : List Byte) (lossFirst : Bool) (s : State) : (s.foreignFrame cfg start body lossFirst).inp = s.inp := by
  simp only [State.foreignFrame]; split <;> simp
@[simp] theorem State.foreignFrame_within (cfg : Configuration) (start : Walk) (body : List Byte) (lossFirst : Bool) (s : State) : (s.foreignFrame cfg start body lossFirst).within = s.within := by
  simp only [State.foreignFrame]; split <;> simp
@[simp] theorem State.foreignFrame_lineIn (cfg : Configuration) (start : Walk) (body : List Byte) (lossFirst : Bool) (s : State) : (s.foreignFrame cfg start body lossFirst).lineIn = s.lineIn := by
  simp only [State.foreignFrame]; split <;> simp
@[simp] theorem State.foreignFrame_cfgIn (cfg : Configuration) (start : Walk) (body : List Byte) (lossFirst : Bool) (s : State) : (s.foreignFrame cfg start body lossFirst).cfgIn = s.cfgIn := by
  simp only [State.foreignFrame]; split <;> simp
@[simp] theorem State.foreignFrame_contactIn (cfg : Configuration) (start : Walk) (body : List Byte) (lossFirst : Bool) (s : State) : (s.foreignFrame cfg start body lossFirst).contactIn = s.contactIn := by
  simp only [State.foreignFrame]; split <;> simp
@[simp] theorem State.foreignFrame_pending (cfg : Configuration) (start : Walk) (body : List Byte) (lossFirst : Bool) (s : State) : (s.foreignFrame cfg start body lossFirst).pending = s.pending := by
  simp only [State.foreignFrame]; split <;> simp
@[simp] theorem State.enterStuck_power (s : State) : (s.enterStuck).power = s.power := by
  simp [State.enterStuck]
@[simp] theorem State.enterStuck_strap (s : State) : (s.enterStuck).strap = s.strap := by
  simp [State.enterStuck]
@[simp] theorem State.enterStuck_tapSelectLow (s : State) : (s.enterStuck).tapSelectLow = s.tapSelectLow := by
  simp [State.enterStuck]
@[simp] theorem State.enterStuck_inputPins (s : State) : (s.enterStuck).inputPins = s.inputPins := by
  simp [State.enterStuck]
@[simp] theorem State.enterStuck_ldr (s : State) : (s.enterStuck).ldr = s.ldr := by
  simp [State.enterStuck]
@[simp] theorem State.enterStuck_img (s : State) : (s.enterStuck).img = s.img := by
  simp [State.enterStuck]
@[simp] theorem State.enterStuck_eng (s : State) : (s.enterStuck).eng = s.eng := by
  simp [State.enterStuck]
@[simp] theorem State.enterStuck_inp (s : State) : (s.enterStuck).inp = s.inp := by
  simp [State.enterStuck]
@[simp] theorem State.enterStuck_within (s : State) : (s.enterStuck).within = s.within := by
  simp [State.enterStuck]
@[simp] theorem State.enterStuck_cnt (s : State) : (s.enterStuck).cnt = s.cnt := by
  simp [State.enterStuck]
@[simp] theorem State.enterStuck_lineIn (s : State) : (s.enterStuck).lineIn = s.lineIn := by
  simp [State.enterStuck]
@[simp] theorem State.enterStuck_cfgIn (s : State) : (s.enterStuck).cfgIn = s.cfgIn := by
  simp [State.enterStuck]
@[simp] theorem State.enterStuck_contactIn (s : State) : (s.enterStuck).contactIn = s.contactIn := by
  simp [State.enterStuck]
@[simp] theorem State.enterStuck_pending (s : State) : (s.enterStuck).pending = s.pending := by
  simp [State.enterStuck]

/-! ### Inputs and loading (Chapters 7 and 9) -/

@[simp] theorem State.acceptInputs_power (cfg : Configuration) (inputs : Vector InputState 16) (s : State) : (s.acceptInputs cfg inputs).power = s.power := by
  simp [State.acceptInputs]
@[simp] theorem State.acceptInputs_strap (cfg : Configuration) (inputs : Vector InputState 16) (s : State) : (s.acceptInputs cfg inputs).strap = s.strap := by
  simp [State.acceptInputs]
@[simp] theorem State.acceptInputs_tapSelectLow (cfg : Configuration) (inputs : Vector InputState 16) (s : State) : (s.acceptInputs cfg inputs).tapSelectLow = s.tapSelectLow := by
  simp [State.acceptInputs]
@[simp] theorem State.acceptInputs_inputPins (cfg : Configuration) (inputs : Vector InputState 16) (s : State) : (s.acceptInputs cfg inputs).inputPins = s.inputPins := by
  simp [State.acceptInputs]
@[simp] theorem State.acceptInputs_ctl (cfg : Configuration) (inputs : Vector InputState 16) (s : State) : (s.acceptInputs cfg inputs).ctl = s.ctl := by
  simp [State.acceptInputs]
@[simp] theorem State.acceptInputs_ldr (cfg : Configuration) (inputs : Vector InputState 16) (s : State) : (s.acceptInputs cfg inputs).ldr = s.ldr := by
  simp [State.acceptInputs]
@[simp] theorem State.acceptInputs_eng (cfg : Configuration) (inputs : Vector InputState 16) (s : State) : (s.acceptInputs cfg inputs).eng = s.eng := by
  simp [State.acceptInputs]
@[simp] theorem State.acceptInputs_line (cfg : Configuration) (inputs : Vector InputState 16) (s : State) : (s.acceptInputs cfg inputs).line = s.line := by
  simp [State.acceptInputs]
@[simp] theorem State.acceptInputs_trk (cfg : Configuration) (inputs : Vector InputState 16) (s : State) : (s.acceptInputs cfg inputs).trk = s.trk := by
  simp [State.acceptInputs]
@[simp] theorem State.acceptInputs_rx (cfg : Configuration) (inputs : Vector InputState 16) (s : State) : (s.acceptInputs cfg inputs).rx = s.rx := by
  simp [State.acceptInputs]
@[simp] theorem State.acceptInputs_tx (cfg : Configuration) (inputs : Vector InputState 16) (s : State) : (s.acceptInputs cfg inputs).tx = s.tx := by
  simp [State.acceptInputs]
@[simp] theorem State.acceptInputs_drv (cfg : Configuration) (inputs : Vector InputState 16) (s : State) : (s.acceptInputs cfg inputs).drv = s.drv := by
  simp [State.acceptInputs]
@[simp] theorem State.acceptInputs_cnt (cfg : Configuration) (inputs : Vector InputState 16) (s : State) : (s.acceptInputs cfg inputs).cnt = s.cnt := by
  simp [State.acceptInputs]
@[simp] theorem State.acceptInputs_lineIn (cfg : Configuration) (inputs : Vector InputState 16) (s : State) : (s.acceptInputs cfg inputs).lineIn = s.lineIn := by
  simp [State.acceptInputs]
@[simp] theorem State.acceptInputs_cfgIn (cfg : Configuration) (inputs : Vector InputState 16) (s : State) : (s.acceptInputs cfg inputs).cfgIn = s.cfgIn := by
  simp [State.acceptInputs]
@[simp] theorem State.acceptInputs_contactIn (cfg : Configuration) (inputs : Vector InputState 16) (s : State) : (s.acceptInputs cfg inputs).contactIn = s.contactIn := by
  simp [State.acceptInputs]
@[simp] theorem State.acceptInputs_pending (cfg : Configuration) (inputs : Vector InputState 16) (s : State) : (s.acceptInputs cfg inputs).pending = s.pending := by
  simp [State.acceptInputs]
@[simp] theorem State.configGood_power (raw : BitVec 16) (s : State) : (s.configGood raw).power = s.power := by
  simp [State.configGood]
@[simp] theorem State.configGood_strap (raw : BitVec 16) (s : State) : (s.configGood raw).strap = s.strap := by
  simp [State.configGood]
@[simp] theorem State.configGood_tapSelectLow (raw : BitVec 16) (s : State) : (s.configGood raw).tapSelectLow = s.tapSelectLow := by
  simp [State.configGood]
@[simp] theorem State.configGood_eng (raw : BitVec 16) (s : State) : (s.configGood raw).eng = s.eng := by
  simp [State.configGood]
@[simp] theorem State.configGood_within (raw : BitVec 16) (s : State) : (s.configGood raw).within = s.within := by
  simp [State.configGood]
@[simp] theorem State.configGood_cnt (raw : BitVec 16) (s : State) : (s.configGood raw).cnt = s.cnt := by
  simp [State.configGood]
@[simp] theorem State.configGood_lineIn (raw : BitVec 16) (s : State) : (s.configGood raw).lineIn = s.lineIn := by
  simp [State.configGood]
@[simp] theorem State.configGood_cfgIn (raw : BitVec 16) (s : State) : (s.configGood raw).cfgIn = s.cfgIn := by
  simp [State.configGood]
@[simp] theorem State.configGood_contactIn (raw : BitVec 16) (s : State) : (s.configGood raw).contactIn = s.contactIn := by
  simp [State.configGood]
@[simp] theorem State.configGood_pending (raw : BitVec 16) (s : State) : (s.configGood raw).pending = s.pending := by
  simp [State.configGood]
@[simp] theorem State.configBad_power (reason : CheckReason) (s : State) : (s.configBad reason).power = s.power := by
  simp [State.configBad]
@[simp] theorem State.configBad_strap (reason : CheckReason) (s : State) : (s.configBad reason).strap = s.strap := by
  simp [State.configBad]
@[simp] theorem State.configBad_tapSelectLow (reason : CheckReason) (s : State) : (s.configBad reason).tapSelectLow = s.tapSelectLow := by
  simp [State.configBad]
@[simp] theorem State.configBad_inputPins (reason : CheckReason) (s : State) : (s.configBad reason).inputPins = s.inputPins := by
  simp [State.configBad]
@[simp] theorem State.configBad_img (reason : CheckReason) (s : State) : (s.configBad reason).img = s.img := by
  simp [State.configBad]
@[simp] theorem State.configBad_eng (reason : CheckReason) (s : State) : (s.configBad reason).eng = s.eng := by
  simp [State.configBad]
@[simp] theorem State.configBad_line (reason : CheckReason) (s : State) : (s.configBad reason).line = s.line := by
  simp [State.configBad]
@[simp] theorem State.configBad_trk (reason : CheckReason) (s : State) : (s.configBad reason).trk = s.trk := by
  simp [State.configBad]
@[simp] theorem State.configBad_rx (reason : CheckReason) (s : State) : (s.configBad reason).rx = s.rx := by
  simp [State.configBad]
@[simp] theorem State.configBad_inp (reason : CheckReason) (s : State) : (s.configBad reason).inp = s.inp := by
  simp [State.configBad]
@[simp] theorem State.configBad_within (reason : CheckReason) (s : State) : (s.configBad reason).within = s.within := by
  simp [State.configBad]
@[simp] theorem State.configBad_cnt (reason : CheckReason) (s : State) : (s.configBad reason).cnt = s.cnt := by
  simp [State.configBad]
@[simp] theorem State.configBad_lineIn (reason : CheckReason) (s : State) : (s.configBad reason).lineIn = s.lineIn := by
  simp [State.configBad]
@[simp] theorem State.configBad_cfgIn (reason : CheckReason) (s : State) : (s.configBad reason).cfgIn = s.cfgIn := by
  simp [State.configBad]
@[simp] theorem State.configBad_contactIn (reason : CheckReason) (s : State) : (s.configBad reason).contactIn = s.contactIn := by
  simp [State.configBad]
@[simp] theorem State.configBad_pending (reason : CheckReason) (s : State) : (s.configBad reason).pending = s.pending := by
  simp [State.configBad]

/-! ### Time (log 2, log 12) -/

@[simp] theorem State.bitTime_power (cfg : Configuration) (s : State) : (s.bitTime cfg).power = s.power := by
  simp [State.bitTime]
@[simp] theorem State.bitTime_strap (cfg : Configuration) (s : State) : (s.bitTime cfg).strap = s.strap := by
  simp [State.bitTime]
@[simp] theorem State.bitTime_tapSelectLow (cfg : Configuration) (s : State) : (s.bitTime cfg).tapSelectLow = s.tapSelectLow := by
  simp [State.bitTime]
@[simp] theorem State.bitTime_inputPins (cfg : Configuration) (s : State) : (s.bitTime cfg).inputPins = s.inputPins := by
  simp [State.bitTime]
@[simp] theorem State.bitTime_ctl (cfg : Configuration) (s : State) : (s.bitTime cfg).ctl = s.ctl := by
  simp [State.bitTime]
@[simp] theorem State.bitTime_ldr (cfg : Configuration) (s : State) : (s.bitTime cfg).ldr = s.ldr := by
  simp [State.bitTime]
@[simp] theorem State.bitTime_img (cfg : Configuration) (s : State) : (s.bitTime cfg).img = s.img := by
  simp [State.bitTime]
@[simp] theorem State.bitTime_eng (cfg : Configuration) (s : State) : (s.bitTime cfg).eng = s.eng := by
  simp [State.bitTime]
@[simp] theorem State.bitTime_inp (cfg : Configuration) (s : State) : (s.bitTime cfg).inp = s.inp := by
  simp [State.bitTime]
@[simp] theorem State.bitTime_within (cfg : Configuration) (s : State) : (s.bitTime cfg).within = s.within := by
  simp [State.bitTime]
@[simp] theorem State.bitTime_drv (cfg : Configuration) (s : State) : (s.bitTime cfg).drv = s.drv := by
  simp [State.bitTime]
@[simp] theorem State.bitTime_tap (cfg : Configuration) (s : State) : (s.bitTime cfg).tap = s.tap := by
  simp [State.bitTime]
@[simp] theorem State.bitTime_cnt (cfg : Configuration) (s : State) : (s.bitTime cfg).cnt = s.cnt := by
  simp [State.bitTime]
@[simp] theorem State.bitTime_cfgIn (cfg : Configuration) (s : State) : (s.bitTime cfg).cfgIn = s.cfgIn := by
  simp [State.bitTime]
@[simp] theorem State.bitTime_contactIn (cfg : Configuration) (s : State) : (s.bitTime cfg).contactIn = s.contactIn := by
  simp [State.bitTime]
@[simp] theorem State.takeByte_power (s : State) : (s.takeByte).power = s.power := by
  simp only [State.takeByte]; split <;> simp
@[simp] theorem State.takeByte_strap (s : State) : (s.takeByte).strap = s.strap := by
  simp only [State.takeByte]; split <;> simp
@[simp] theorem State.takeByte_tapSelectLow (s : State) : (s.takeByte).tapSelectLow = s.tapSelectLow := by
  simp only [State.takeByte]; split <;> simp
@[simp] theorem State.takeByte_inputPins (s : State) : (s.takeByte).inputPins = s.inputPins := by
  simp only [State.takeByte]; split <;> simp
@[simp] theorem State.takeByte_ctl (s : State) : (s.takeByte).ctl = s.ctl := by
  simp only [State.takeByte]; split <;> simp
@[simp] theorem State.takeByte_img (s : State) : (s.takeByte).img = s.img := by
  simp only [State.takeByte]; split <;> simp
@[simp] theorem State.takeByte_eng (s : State) : (s.takeByte).eng = s.eng := by
  simp only [State.takeByte]; split <;> simp
@[simp] theorem State.takeByte_line (s : State) : (s.takeByte).line = s.line := by
  simp only [State.takeByte]; split <;> simp
@[simp] theorem State.takeByte_trk (s : State) : (s.takeByte).trk = s.trk := by
  simp only [State.takeByte]; split <;> simp
@[simp] theorem State.takeByte_rx (s : State) : (s.takeByte).rx = s.rx := by
  simp only [State.takeByte]; split <;> simp
@[simp] theorem State.takeByte_tx (s : State) : (s.takeByte).tx = s.tx := by
  simp only [State.takeByte]; split <;> simp
@[simp] theorem State.takeByte_inp (s : State) : (s.takeByte).inp = s.inp := by
  simp only [State.takeByte]; split <;> simp
@[simp] theorem State.takeByte_within (s : State) : (s.takeByte).within = s.within := by
  simp only [State.takeByte]; split <;> simp
@[simp] theorem State.takeByte_drv (s : State) : (s.takeByte).drv = s.drv := by
  simp only [State.takeByte]; split <;> simp
@[simp] theorem State.takeByte_tap (s : State) : (s.takeByte).tap = s.tap := by
  simp only [State.takeByte]; split <;> simp
@[simp] theorem State.takeByte_cnt (s : State) : (s.takeByte).cnt = s.cnt := by
  simp only [State.takeByte]; split <;> simp
@[simp] theorem State.takeByte_lineIn (s : State) : (s.takeByte).lineIn = s.lineIn := by
  simp only [State.takeByte]; split <;> simp
@[simp] theorem State.takeByte_contactIn (s : State) : (s.takeByte).contactIn = s.contactIn := by
  simp only [State.takeByte]; split <;> simp
@[simp] theorem State.readByte_power (s : State) : (s.readByte).power = s.power := by
  simp only [State.readByte]; repeat' split
  all_goals simp
@[simp] theorem State.readByte_strap (s : State) : (s.readByte).strap = s.strap := by
  simp only [State.readByte]; repeat' split
  all_goals simp
@[simp] theorem State.readByte_tapSelectLow (s : State) : (s.readByte).tapSelectLow = s.tapSelectLow := by
  simp only [State.readByte]; repeat' split
  all_goals simp
@[simp] theorem State.readByte_inputPins (s : State) : (s.readByte).inputPins = s.inputPins := by
  simp only [State.readByte]; repeat' split
  all_goals simp
@[simp] theorem State.readByte_ctl (s : State) : (s.readByte).ctl = s.ctl := by
  simp only [State.readByte]; repeat' split
  all_goals simp
@[simp] theorem State.readByte_img (s : State) : (s.readByte).img = s.img := by
  simp only [State.readByte]; repeat' split
  all_goals simp
@[simp] theorem State.readByte_eng (s : State) : (s.readByte).eng = s.eng := by
  simp only [State.readByte]; repeat' split
  all_goals simp
@[simp] theorem State.readByte_line (s : State) : (s.readByte).line = s.line := by
  simp only [State.readByte]; repeat' split
  all_goals simp
@[simp] theorem State.readByte_trk (s : State) : (s.readByte).trk = s.trk := by
  simp only [State.readByte]; repeat' split
  all_goals simp
@[simp] theorem State.readByte_rx (s : State) : (s.readByte).rx = s.rx := by
  simp only [State.readByte]; repeat' split
  all_goals simp
@[simp] theorem State.readByte_tx (s : State) : (s.readByte).tx = s.tx := by
  simp only [State.readByte]; repeat' split
  all_goals simp
@[simp] theorem State.readByte_inp (s : State) : (s.readByte).inp = s.inp := by
  simp only [State.readByte]; repeat' split
  all_goals simp
@[simp] theorem State.readByte_within (s : State) : (s.readByte).within = s.within := by
  simp only [State.readByte]; repeat' split
  all_goals simp
@[simp] theorem State.readByte_drv (s : State) : (s.readByte).drv = s.drv := by
  simp only [State.readByte]; repeat' split
  all_goals simp
@[simp] theorem State.readByte_tap (s : State) : (s.readByte).tap = s.tap := by
  simp only [State.readByte]; repeat' split
  all_goals simp
@[simp] theorem State.readByte_cnt (s : State) : (s.readByte).cnt = s.cnt := by
  simp only [State.readByte]; repeat' split
  all_goals simp
@[simp] theorem State.readByte_lineIn (s : State) : (s.readByte).lineIn = s.lineIn := by
  simp only [State.readByte]; repeat' split
  all_goals simp
@[simp] theorem State.readByte_contactIn (s : State) : (s.readByte).contactIn = s.contactIn := by
  simp only [State.readByte]; repeat' split
  all_goals simp
@[simp] theorem State.presentContacts_power (s : State) : (s.presentContacts).power = s.power := by
  rfl
@[simp] theorem State.presentContacts_strap (s : State) : (s.presentContacts).strap = s.strap := by
  rfl
@[simp] theorem State.presentContacts_tapSelectLow (s : State) : (s.presentContacts).tapSelectLow = s.tapSelectLow := by
  rfl
@[simp] theorem State.presentContacts_ctl (s : State) : (s.presentContacts).ctl = s.ctl := by
  rfl
@[simp] theorem State.presentContacts_ldr (s : State) : (s.presentContacts).ldr = s.ldr := by
  rfl
@[simp] theorem State.presentContacts_img (s : State) : (s.presentContacts).img = s.img := by
  rfl
@[simp] theorem State.presentContacts_eng (s : State) : (s.presentContacts).eng = s.eng := by
  rfl
@[simp] theorem State.presentContacts_line (s : State) : (s.presentContacts).line = s.line := by
  rfl
@[simp] theorem State.presentContacts_trk (s : State) : (s.presentContacts).trk = s.trk := by
  rfl
@[simp] theorem State.presentContacts_rx (s : State) : (s.presentContacts).rx = s.rx := by
  rfl
@[simp] theorem State.presentContacts_tx (s : State) : (s.presentContacts).tx = s.tx := by
  rfl
@[simp] theorem State.presentContacts_inp (s : State) : (s.presentContacts).inp = s.inp := by
  rfl
@[simp] theorem State.presentContacts_within (s : State) : (s.presentContacts).within = s.within := by
  rfl
@[simp] theorem State.presentContacts_drv (s : State) : (s.presentContacts).drv = s.drv := by
  rfl
@[simp] theorem State.presentContacts_tap (s : State) : (s.presentContacts).tap = s.tap := by
  rfl
@[simp] theorem State.presentContacts_cnt (s : State) : (s.presentContacts).cnt = s.cnt := by
  rfl
@[simp] theorem State.presentContacts_lineIn (s : State) : (s.presentContacts).lineIn = s.lineIn := by
  rfl
@[simp] theorem State.presentContacts_cfgIn (s : State) : (s.presentContacts).cfgIn = s.cfgIn := by
  rfl
@[simp] theorem State.presentContacts_pending (s : State) : (s.presentContacts).pending = s.pending := by
  rfl
@[simp] theorem State.clock_power (s : State) : (s.clock).power = s.power := by
  unfold State.clock; repeat' split
  all_goals simp
@[simp] theorem State.clock_strap (s : State) : (s.clock).strap = s.strap := by
  unfold State.clock; repeat' split
  all_goals simp
@[simp] theorem State.clock_tapSelectLow (s : State) : (s.clock).tapSelectLow = s.tapSelectLow := by
  unfold State.clock; repeat' split
  all_goals simp
@[simp] theorem State.clock_ctl (s : State) : (s.clock).ctl = s.ctl := by
  unfold State.clock; repeat' split
  all_goals simp
@[simp] theorem State.clock_img (s : State) : (s.clock).img = s.img := by
  unfold State.clock; repeat' split
  all_goals simp
@[simp] theorem State.clock_eng (s : State) : (s.clock).eng = s.eng := by
  unfold State.clock; repeat' split
  all_goals simp
@[simp] theorem State.clock_inp (s : State) : (s.clock).inp = s.inp := by
  unfold State.clock; repeat' split
  all_goals simp
@[simp] theorem State.clock_within (s : State) : (s.clock).within = s.within := by
  unfold State.clock; repeat' split
  all_goals simp
@[simp] theorem State.clock_drv (s : State) : (s.clock).drv = s.drv := by
  unfold State.clock; repeat' split
  all_goals simp
@[simp] theorem State.clock_tap (s : State) : (s.clock).tap = s.tap := by
  unfold State.clock; repeat' split
  all_goals simp
@[simp] theorem State.clock_cnt (s : State) : (s.clock).cnt = s.cnt := by
  unfold State.clock; repeat' split
  all_goals simp
@[simp] theorem State.takeByte_config (s : State) : s.takeByte.ldr.config = s.ldr.config := by
  simp only [State.takeByte]; split <;> simp
@[simp] theorem State.takeByte_phase (s : State) : s.takeByte.ldr.phase = s.ldr.phase := by
  simp only [State.takeByte]; split <;> simp
@[simp] theorem State.readByte_config (s : State) : s.readByte.ldr.config = s.ldr.config := by
  simp only [State.readByte]; repeat' split
  all_goals simp
@[simp] theorem State.readByte_phase (s : State) : s.readByte.ldr.phase = s.ldr.phase := by
  simp only [State.readByte]; repeat' split
  all_goals simp
@[simp] theorem State.clock_config (s : State) : s.clock.ldr.config = s.ldr.config := by
  unfold State.clock; repeat' split
  all_goals simp
@[simp] theorem State.clock_phase (s : State) : s.clock.ldr.phase = s.ldr.phase := by
  unfold State.clock; repeat' split
  all_goals simp
@[simp] theorem State.clock_member (s : State) (n : StationNo) : s.clock.member n = s.member n :=
  State.member_congr (by simp) n
@[simp] theorem State.clock_round (s : State) : s.clock.trk.round = s.trk.round := by
  unfold State.clock; repeat' split
  all_goals simp [State.bitTime]
@[simp] theorem State.clock_walk (s : State) : s.clock.trk.walk = s.trk.walk := by
  unfold State.clock; repeat' split
  all_goals simp [State.bitTime]

/-! ### The effects of the tap commands (Chapter 10) -/

@[simp] theorem State.withdrawEffect_power (s : State) : (s.withdrawEffect).power = s.power := by
  unfold State.withdrawEffect; split <;> simp
@[simp] theorem State.withdrawEffect_strap (s : State) : (s.withdrawEffect).strap = s.strap := by
  unfold State.withdrawEffect; split <;> simp
@[simp] theorem State.withdrawEffect_tapSelectLow (s : State) : (s.withdrawEffect).tapSelectLow = s.tapSelectLow := by
  unfold State.withdrawEffect; split <;> simp
@[simp] theorem State.withdrawEffect_inputPins (s : State) : (s.withdrawEffect).inputPins = s.inputPins := by
  unfold State.withdrawEffect; split <;> simp
@[simp] theorem State.withdrawEffect_ldr (s : State) : (s.withdrawEffect).ldr = s.ldr := by
  unfold State.withdrawEffect; split <;> simp
@[simp] theorem State.withdrawEffect_img (s : State) : (s.withdrawEffect).img = s.img := by
  unfold State.withdrawEffect; split <;> simp
@[simp] theorem State.withdrawEffect_eng (s : State) : (s.withdrawEffect).eng = s.eng := by
  unfold State.withdrawEffect; split <;> simp
@[simp] theorem State.withdrawEffect_line (s : State) : (s.withdrawEffect).line = s.line := by
  unfold State.withdrawEffect; split <;> simp
@[simp] theorem State.withdrawEffect_trk (s : State) : (s.withdrawEffect).trk = s.trk := by
  unfold State.withdrawEffect; split <;> simp
@[simp] theorem State.withdrawEffect_rx (s : State) : (s.withdrawEffect).rx = s.rx := by
  unfold State.withdrawEffect; split <;> simp
@[simp] theorem State.withdrawEffect_tx (s : State) : (s.withdrawEffect).tx = s.tx := by
  unfold State.withdrawEffect; split <;> simp
@[simp] theorem State.withdrawEffect_inp (s : State) : (s.withdrawEffect).inp = s.inp := by
  unfold State.withdrawEffect; split <;> simp
@[simp] theorem State.withdrawEffect_within (s : State) : (s.withdrawEffect).within = s.within := by
  unfold State.withdrawEffect; split <;> simp
@[simp] theorem State.withdrawEffect_drv (s : State) : (s.withdrawEffect).drv = s.drv := by
  unfold State.withdrawEffect; split <;> simp
@[simp] theorem State.withdrawEffect_cnt (s : State) : (s.withdrawEffect).cnt = s.cnt := by
  unfold State.withdrawEffect; split <;> simp
@[simp] theorem State.withdrawEffect_lineIn (s : State) : (s.withdrawEffect).lineIn = s.lineIn := by
  unfold State.withdrawEffect; split <;> simp
@[simp] theorem State.withdrawEffect_cfgIn (s : State) : (s.withdrawEffect).cfgIn = s.cfgIn := by
  unfold State.withdrawEffect; split <;> simp
@[simp] theorem State.withdrawEffect_contactIn (s : State) : (s.withdrawEffect).contactIn = s.contactIn := by
  unfold State.withdrawEffect; split <;> simp
@[simp] theorem State.withdrawEffect_pending (s : State) : (s.withdrawEffect).pending = s.pending := by
  unfold State.withdrawEffect; split <;> simp
@[simp] theorem State.rejoinEffect_power (s : State) : (s.rejoinEffect).power = s.power := by
  unfold State.rejoinEffect; repeat' split
  all_goals simp
@[simp] theorem State.rejoinEffect_strap (s : State) : (s.rejoinEffect).strap = s.strap := by
  unfold State.rejoinEffect; repeat' split
  all_goals simp
@[simp] theorem State.rejoinEffect_tapSelectLow (s : State) : (s.rejoinEffect).tapSelectLow = s.tapSelectLow := by
  unfold State.rejoinEffect; repeat' split
  all_goals simp
@[simp] theorem State.rejoinEffect_inputPins (s : State) : (s.rejoinEffect).inputPins = s.inputPins := by
  unfold State.rejoinEffect; repeat' split
  all_goals simp
@[simp] theorem State.rejoinEffect_ldr (s : State) : (s.rejoinEffect).ldr = s.ldr := by
  unfold State.rejoinEffect; repeat' split
  all_goals simp
@[simp] theorem State.rejoinEffect_img (s : State) : (s.rejoinEffect).img = s.img := by
  unfold State.rejoinEffect; repeat' split
  all_goals simp
@[simp] theorem State.rejoinEffect_eng (s : State) : (s.rejoinEffect).eng = s.eng := by
  unfold State.rejoinEffect; repeat' split
  all_goals simp
@[simp] theorem State.rejoinEffect_line (s : State) : (s.rejoinEffect).line = s.line := by
  unfold State.rejoinEffect; repeat' split
  all_goals simp
@[simp] theorem State.rejoinEffect_trk (s : State) : (s.rejoinEffect).trk = s.trk := by
  unfold State.rejoinEffect; repeat' split
  all_goals simp
@[simp] theorem State.rejoinEffect_rx (s : State) : (s.rejoinEffect).rx = s.rx := by
  unfold State.rejoinEffect; repeat' split
  all_goals simp
@[simp] theorem State.rejoinEffect_inp (s : State) : (s.rejoinEffect).inp = s.inp := by
  unfold State.rejoinEffect; repeat' split
  all_goals simp
@[simp] theorem State.rejoinEffect_within (s : State) : (s.rejoinEffect).within = s.within := by
  unfold State.rejoinEffect; repeat' split
  all_goals simp
@[simp] theorem State.rejoinEffect_cnt (s : State) : (s.rejoinEffect).cnt = s.cnt := by
  unfold State.rejoinEffect; repeat' split
  all_goals simp
@[simp] theorem State.rejoinEffect_lineIn (s : State) : (s.rejoinEffect).lineIn = s.lineIn := by
  unfold State.rejoinEffect; repeat' split
  all_goals simp
@[simp] theorem State.rejoinEffect_cfgIn (s : State) : (s.rejoinEffect).cfgIn = s.cfgIn := by
  unfold State.rejoinEffect; repeat' split
  all_goals simp
@[simp] theorem State.rejoinEffect_contactIn (s : State) : (s.rejoinEffect).contactIn = s.contactIn := by
  unfold State.rejoinEffect; repeat' split
  all_goals simp
@[simp] theorem State.rejoinEffect_pending (s : State) : (s.rejoinEffect).pending = s.pending := by
  unfold State.rejoinEffect; repeat' split
  all_goals simp
@[simp] theorem State.repackEffect_power (s : State) : (s.repackEffect).power = s.power := by
  unfold State.repackEffect; split <;> simp
@[simp] theorem State.repackEffect_strap (s : State) : (s.repackEffect).strap = s.strap := by
  unfold State.repackEffect; split <;> simp
@[simp] theorem State.repackEffect_tapSelectLow (s : State) : (s.repackEffect).tapSelectLow = s.tapSelectLow := by
  unfold State.repackEffect; split <;> simp
@[simp] theorem State.repackEffect_inputPins (s : State) : (s.repackEffect).inputPins = s.inputPins := by
  unfold State.repackEffect; split <;> simp
@[simp] theorem State.repackEffect_ctl (s : State) : (s.repackEffect).ctl = s.ctl := by
  unfold State.repackEffect; split <;> simp
@[simp] theorem State.repackEffect_ldr (s : State) : (s.repackEffect).ldr = s.ldr := by
  unfold State.repackEffect; split <;> simp
@[simp] theorem State.repackEffect_eng (s : State) : (s.repackEffect).eng = s.eng := by
  unfold State.repackEffect; split <;> simp
@[simp] theorem State.repackEffect_line (s : State) : (s.repackEffect).line = s.line := by
  unfold State.repackEffect; split <;> simp
@[simp] theorem State.repackEffect_trk (s : State) : (s.repackEffect).trk = s.trk := by
  unfold State.repackEffect; split <;> simp
@[simp] theorem State.repackEffect_rx (s : State) : (s.repackEffect).rx = s.rx := by
  unfold State.repackEffect; split <;> simp
@[simp] theorem State.repackEffect_tx (s : State) : (s.repackEffect).tx = s.tx := by
  unfold State.repackEffect; split <;> simp
@[simp] theorem State.repackEffect_inp (s : State) : (s.repackEffect).inp = s.inp := by
  unfold State.repackEffect; split <;> simp
@[simp] theorem State.repackEffect_within (s : State) : (s.repackEffect).within = s.within := by
  unfold State.repackEffect; split <;> simp
@[simp] theorem State.repackEffect_drv (s : State) : (s.repackEffect).drv = s.drv := by
  unfold State.repackEffect; split <;> simp
@[simp] theorem State.repackEffect_cnt (s : State) : (s.repackEffect).cnt = s.cnt := by
  unfold State.repackEffect; split <;> simp
@[simp] theorem State.repackEffect_lineIn (s : State) : (s.repackEffect).lineIn = s.lineIn := by
  unfold State.repackEffect; split <;> simp
@[simp] theorem State.repackEffect_cfgIn (s : State) : (s.repackEffect).cfgIn = s.cfgIn := by
  unfold State.repackEffect; split <;> simp
@[simp] theorem State.repackEffect_contactIn (s : State) : (s.repackEffect).contactIn = s.contactIn := by
  unfold State.repackEffect; split <;> simp
@[simp] theorem State.repackEffect_pending (s : State) : (s.repackEffect).pending = s.pending := by
  unfold State.repackEffect; split <;> simp
@[simp] theorem State.clearEffect_power (s : State) : (s.clearEffect).power = s.power := by
  simp [State.clearEffect]
@[simp] theorem State.clearEffect_strap (s : State) : (s.clearEffect).strap = s.strap := by
  simp [State.clearEffect]
@[simp] theorem State.clearEffect_tapSelectLow (s : State) : (s.clearEffect).tapSelectLow = s.tapSelectLow := by
  simp [State.clearEffect]
@[simp] theorem State.clearEffect_inputPins (s : State) : (s.clearEffect).inputPins = s.inputPins := by
  simp [State.clearEffect]
@[simp] theorem State.clearEffect_ctl (s : State) : (s.clearEffect).ctl = s.ctl := by
  simp [State.clearEffect]
@[simp] theorem State.clearEffect_ldr (s : State) : (s.clearEffect).ldr = s.ldr := by
  simp [State.clearEffect]
@[simp] theorem State.clearEffect_eng (s : State) : (s.clearEffect).eng = s.eng := by
  simp [State.clearEffect]
@[simp] theorem State.clearEffect_line (s : State) : (s.clearEffect).line = s.line := by
  simp [State.clearEffect]
@[simp] theorem State.clearEffect_trk (s : State) : (s.clearEffect).trk = s.trk := by
  simp [State.clearEffect]
@[simp] theorem State.clearEffect_rx (s : State) : (s.clearEffect).rx = s.rx := by
  simp [State.clearEffect]
@[simp] theorem State.clearEffect_tx (s : State) : (s.clearEffect).tx = s.tx := by
  simp [State.clearEffect]
@[simp] theorem State.clearEffect_inp (s : State) : (s.clearEffect).inp = s.inp := by
  simp [State.clearEffect]
@[simp] theorem State.clearEffect_within (s : State) : (s.clearEffect).within = s.within := by
  simp [State.clearEffect]
@[simp] theorem State.clearEffect_drv (s : State) : (s.clearEffect).drv = s.drv := by
  simp [State.clearEffect]
@[simp] theorem State.clearEffect_lineIn (s : State) : (s.clearEffect).lineIn = s.lineIn := by
  simp [State.clearEffect]
@[simp] theorem State.clearEffect_cfgIn (s : State) : (s.clearEffect).cfgIn = s.cfgIn := by
  simp [State.clearEffect]
@[simp] theorem State.clearEffect_contactIn (s : State) : (s.clearEffect).contactIn = s.contactIn := by
  simp [State.clearEffect]
@[simp] theorem State.clearEffect_pending (s : State) : (s.clearEffect).pending = s.pending := by
  simp [State.clearEffect]
@[simp] theorem State.arrive_power (bits : List Level) (latch : Option Latch) (clocks : Nat) (s : State) : (s.arrive bits latch clocks).power = s.power := by
  simp only [State.arrive]; repeat' split
  all_goals simp
@[simp] theorem State.arrive_strap (bits : List Level) (latch : Option Latch) (clocks : Nat) (s : State) : (s.arrive bits latch clocks).strap = s.strap := by
  simp only [State.arrive]; repeat' split
  all_goals simp
@[simp] theorem State.arrive_tapSelectLow (bits : List Level) (latch : Option Latch) (clocks : Nat) (s : State) : (s.arrive bits latch clocks).tapSelectLow = s.tapSelectLow := by
  simp only [State.arrive]; repeat' split
  all_goals simp
@[simp] theorem State.arrive_inputPins (bits : List Level) (latch : Option Latch) (clocks : Nat) (s : State) : (s.arrive bits latch clocks).inputPins = s.inputPins := by
  simp only [State.arrive]; repeat' split
  all_goals simp
@[simp] theorem State.arrive_ctl (bits : List Level) (latch : Option Latch) (clocks : Nat) (s : State) : (s.arrive bits latch clocks).ctl = s.ctl := by
  simp only [State.arrive]; repeat' split
  all_goals simp
@[simp] theorem State.arrive_ldr (bits : List Level) (latch : Option Latch) (clocks : Nat) (s : State) : (s.arrive bits latch clocks).ldr = s.ldr := by
  simp only [State.arrive]; repeat' split
  all_goals simp
@[simp] theorem State.arrive_img (bits : List Level) (latch : Option Latch) (clocks : Nat) (s : State) : (s.arrive bits latch clocks).img = s.img := by
  simp only [State.arrive]; repeat' split
  all_goals simp
@[simp] theorem State.arrive_eng (bits : List Level) (latch : Option Latch) (clocks : Nat) (s : State) : (s.arrive bits latch clocks).eng = s.eng := by
  simp only [State.arrive]; repeat' split
  all_goals simp
@[simp] theorem State.arrive_line (bits : List Level) (latch : Option Latch) (clocks : Nat) (s : State) : (s.arrive bits latch clocks).line = s.line := by
  simp only [State.arrive]; repeat' split
  all_goals simp
@[simp] theorem State.arrive_trk (bits : List Level) (latch : Option Latch) (clocks : Nat) (s : State) : (s.arrive bits latch clocks).trk = s.trk := by
  simp only [State.arrive]; repeat' split
  all_goals simp
@[simp] theorem State.arrive_rx (bits : List Level) (latch : Option Latch) (clocks : Nat) (s : State) : (s.arrive bits latch clocks).rx = s.rx := by
  simp only [State.arrive]; repeat' split
  all_goals simp
@[simp] theorem State.arrive_tx (bits : List Level) (latch : Option Latch) (clocks : Nat) (s : State) : (s.arrive bits latch clocks).tx = s.tx := by
  simp only [State.arrive]; repeat' split
  all_goals simp
@[simp] theorem State.arrive_inp (bits : List Level) (latch : Option Latch) (clocks : Nat) (s : State) : (s.arrive bits latch clocks).inp = s.inp := by
  simp only [State.arrive]; repeat' split
  all_goals simp
@[simp] theorem State.arrive_within (bits : List Level) (latch : Option Latch) (clocks : Nat) (s : State) : (s.arrive bits latch clocks).within = s.within := by
  simp only [State.arrive]; repeat' split
  all_goals simp
@[simp] theorem State.arrive_drv (bits : List Level) (latch : Option Latch) (clocks : Nat) (s : State) : (s.arrive bits latch clocks).drv = s.drv := by
  simp only [State.arrive]; repeat' split
  all_goals simp
@[simp] theorem State.arrive_cnt (bits : List Level) (latch : Option Latch) (clocks : Nat) (s : State) : (s.arrive bits latch clocks).cnt = s.cnt := by
  simp only [State.arrive]; repeat' split
  all_goals simp
@[simp] theorem State.arrive_lineIn (bits : List Level) (latch : Option Latch) (clocks : Nat) (s : State) : (s.arrive bits latch clocks).lineIn = s.lineIn := by
  simp only [State.arrive]; repeat' split
  all_goals simp
@[simp] theorem State.arrive_cfgIn (bits : List Level) (latch : Option Latch) (clocks : Nat) (s : State) : (s.arrive bits latch clocks).cfgIn = s.cfgIn := by
  simp only [State.arrive]; repeat' split
  all_goals simp
@[simp] theorem State.arrive_contactIn (bits : List Level) (latch : Option Latch) (clocks : Nat) (s : State) : (s.arrive bits latch clocks).contactIn = s.contactIn := by
  simp only [State.arrive]; repeat' split
  all_goals simp
@[simp] theorem State.arrive_pending (bits : List Level) (latch : Option Latch) (clocks : Nat) (s : State) : (s.arrive bits latch clocks).pending = s.pending := by
  simp only [State.arrive]; repeat' split
  all_goals simp
@[simp] theorem State.receive_power (bits : List Level) (s : State) : (s.receive bits).power = s.power := by
  simp [State.receive]
@[simp] theorem State.receive_strap (bits : List Level) (s : State) : (s.receive bits).strap = s.strap := by
  simp [State.receive]
@[simp] theorem State.receive_tapSelectLow (bits : List Level) (s : State) : (s.receive bits).tapSelectLow = s.tapSelectLow := by
  simp [State.receive]
@[simp] theorem State.receive_inputPins (bits : List Level) (s : State) : (s.receive bits).inputPins = s.inputPins := by
  simp [State.receive]
@[simp] theorem State.receive_ctl (bits : List Level) (s : State) : (s.receive bits).ctl = s.ctl := by
  simp [State.receive]
@[simp] theorem State.receive_ldr (bits : List Level) (s : State) : (s.receive bits).ldr = s.ldr := by
  simp [State.receive]
@[simp] theorem State.receive_img (bits : List Level) (s : State) : (s.receive bits).img = s.img := by
  simp [State.receive]
@[simp] theorem State.receive_eng (bits : List Level) (s : State) : (s.receive bits).eng = s.eng := by
  simp [State.receive]
@[simp] theorem State.receive_line (bits : List Level) (s : State) : (s.receive bits).line = s.line := by
  simp [State.receive]
@[simp] theorem State.receive_trk (bits : List Level) (s : State) : (s.receive bits).trk = s.trk := by
  simp [State.receive]
@[simp] theorem State.receive_rx (bits : List Level) (s : State) : (s.receive bits).rx = s.rx := by
  simp [State.receive]
@[simp] theorem State.receive_tx (bits : List Level) (s : State) : (s.receive bits).tx = s.tx := by
  simp [State.receive]
@[simp] theorem State.receive_inp (bits : List Level) (s : State) : (s.receive bits).inp = s.inp := by
  simp [State.receive]
@[simp] theorem State.receive_within (bits : List Level) (s : State) : (s.receive bits).within = s.within := by
  simp [State.receive]
@[simp] theorem State.receive_drv (bits : List Level) (s : State) : (s.receive bits).drv = s.drv := by
  simp [State.receive]
@[simp] theorem State.receive_cnt (bits : List Level) (s : State) : (s.receive bits).cnt = s.cnt := by
  simp [State.receive]
@[simp] theorem State.receive_lineIn (bits : List Level) (s : State) : (s.receive bits).lineIn = s.lineIn := by
  simp [State.receive]
@[simp] theorem State.receive_cfgIn (bits : List Level) (s : State) : (s.receive bits).cfgIn = s.cfgIn := by
  simp [State.receive]
@[simp] theorem State.receive_contactIn (bits : List Level) (s : State) : (s.receive bits).contactIn = s.contactIn := by
  simp [State.receive]
@[simp] theorem State.receive_pending (bits : List Level) (s : State) : (s.receive bits).pending = s.pending := by
  simp [State.receive]
@[simp] theorem State.riseMalformed_power (bits : List Level) (s : State) : (s.riseMalformed bits).power = s.power := by
  unfold State.riseMalformed; repeat' split
  all_goals simp
@[simp] theorem State.riseMalformed_strap (bits : List Level) (s : State) : (s.riseMalformed bits).strap = s.strap := by
  unfold State.riseMalformed; repeat' split
  all_goals simp
@[simp] theorem State.riseMalformed_inputPins (bits : List Level) (s : State) : (s.riseMalformed bits).inputPins = s.inputPins := by
  unfold State.riseMalformed; repeat' split
  all_goals simp
@[simp] theorem State.riseMalformed_ctl (bits : List Level) (s : State) : (s.riseMalformed bits).ctl = s.ctl := by
  unfold State.riseMalformed; repeat' split
  all_goals simp
@[simp] theorem State.riseMalformed_ldr (bits : List Level) (s : State) : (s.riseMalformed bits).ldr = s.ldr := by
  unfold State.riseMalformed; repeat' split
  all_goals simp
@[simp] theorem State.riseMalformed_img (bits : List Level) (s : State) : (s.riseMalformed bits).img = s.img := by
  unfold State.riseMalformed; repeat' split
  all_goals simp
@[simp] theorem State.riseMalformed_eng (bits : List Level) (s : State) : (s.riseMalformed bits).eng = s.eng := by
  unfold State.riseMalformed; repeat' split
  all_goals simp
@[simp] theorem State.riseMalformed_line (bits : List Level) (s : State) : (s.riseMalformed bits).line = s.line := by
  unfold State.riseMalformed; repeat' split
  all_goals simp
@[simp] theorem State.riseMalformed_trk (bits : List Level) (s : State) : (s.riseMalformed bits).trk = s.trk := by
  unfold State.riseMalformed; repeat' split
  all_goals simp
@[simp] theorem State.riseMalformed_rx (bits : List Level) (s : State) : (s.riseMalformed bits).rx = s.rx := by
  unfold State.riseMalformed; repeat' split
  all_goals simp
@[simp] theorem State.riseMalformed_tx (bits : List Level) (s : State) : (s.riseMalformed bits).tx = s.tx := by
  unfold State.riseMalformed; repeat' split
  all_goals simp
@[simp] theorem State.riseMalformed_inp (bits : List Level) (s : State) : (s.riseMalformed bits).inp = s.inp := by
  unfold State.riseMalformed; repeat' split
  all_goals simp
@[simp] theorem State.riseMalformed_within (bits : List Level) (s : State) : (s.riseMalformed bits).within = s.within := by
  unfold State.riseMalformed; repeat' split
  all_goals simp
@[simp] theorem State.riseMalformed_drv (bits : List Level) (s : State) : (s.riseMalformed bits).drv = s.drv := by
  unfold State.riseMalformed; repeat' split
  all_goals simp
@[simp] theorem State.riseMalformed_cnt (bits : List Level) (s : State) : (s.riseMalformed bits).cnt = s.cnt := by
  unfold State.riseMalformed; repeat' split
  all_goals simp
@[simp] theorem State.riseMalformed_lineIn (bits : List Level) (s : State) : (s.riseMalformed bits).lineIn = s.lineIn := by
  unfold State.riseMalformed; repeat' split
  all_goals simp
@[simp] theorem State.riseMalformed_cfgIn (bits : List Level) (s : State) : (s.riseMalformed bits).cfgIn = s.cfgIn := by
  unfold State.riseMalformed; repeat' split
  all_goals simp
@[simp] theorem State.riseMalformed_contactIn (bits : List Level) (s : State) : (s.riseMalformed bits).contactIn = s.contactIn := by
  unfold State.riseMalformed; repeat' split
  all_goals simp
@[simp] theorem State.riseMalformed_pending (bits : List Level) (s : State) : (s.riseMalformed bits).pending = s.pending := by
  unfold State.riseMalformed; repeat' split
  all_goals simp
@[simp] theorem State.clearEffect_img_table (s : State) : s.clearEffect.img.table = s.img.table := by
  simp [State.clearEffect]
@[simp] theorem State.clearEffect_img_pool (s : State) : s.clearEffect.img.pool = s.img.pool := by
  simp [State.clearEffect]
@[simp] theorem State.clearEffect_img_repackPending (s : State) : s.clearEffect.img.repackPending = s.img.repackPending := by
  simp [State.clearEffect]
@[simp] theorem State.clearEffect_img_own (s : State) : s.clearEffect.img.own = s.img.own := by
  simp [State.clearEffect]
@[simp] theorem State.clearEffect_member (s : State) (n : StationNo) : s.clearEffect.member n = (s.member n).zeroCounts := by
  simp [State.clearEffect, State.member]
@[simp] theorem State.clearEffect_cnt (s : State) : s.clearEffect.cnt = Counters.zero := by
  simp [State.clearEffect]
@[simp] theorem State.clearEffect_tap (s : State) : s.clearEffect.tap = { s.tap with lostEvents := 0, lastResult := .accepted } := by
  rfl
@[simp] theorem readEffect_power (ok : Bool) (l : Latch) (s : State) : (readEffect ok l s).power = s.power := by
  unfold readEffect; split <;> simp
@[simp] theorem readEffect_strap (ok : Bool) (l : Latch) (s : State) : (readEffect ok l s).strap = s.strap := by
  unfold readEffect; split <;> simp
@[simp] theorem readEffect_tapSelectLow (ok : Bool) (l : Latch) (s : State) : (readEffect ok l s).tapSelectLow = s.tapSelectLow := by
  unfold readEffect; split <;> simp
@[simp] theorem readEffect_inputPins (ok : Bool) (l : Latch) (s : State) : (readEffect ok l s).inputPins = s.inputPins := by
  unfold readEffect; split <;> simp
@[simp] theorem readEffect_ctl (ok : Bool) (l : Latch) (s : State) : (readEffect ok l s).ctl = s.ctl := by
  unfold readEffect; split <;> simp
@[simp] theorem readEffect_ldr (ok : Bool) (l : Latch) (s : State) : (readEffect ok l s).ldr = s.ldr := by
  unfold readEffect; split <;> simp
@[simp] theorem readEffect_img (ok : Bool) (l : Latch) (s : State) : (readEffect ok l s).img = s.img := by
  unfold readEffect; split <;> simp
@[simp] theorem readEffect_eng (ok : Bool) (l : Latch) (s : State) : (readEffect ok l s).eng = s.eng := by
  unfold readEffect; split <;> simp
@[simp] theorem readEffect_line (ok : Bool) (l : Latch) (s : State) : (readEffect ok l s).line = s.line := by
  unfold readEffect; split <;> simp
@[simp] theorem readEffect_trk (ok : Bool) (l : Latch) (s : State) : (readEffect ok l s).trk = s.trk := by
  unfold readEffect; split <;> simp
@[simp] theorem readEffect_rx (ok : Bool) (l : Latch) (s : State) : (readEffect ok l s).rx = s.rx := by
  unfold readEffect; split <;> simp
@[simp] theorem readEffect_tx (ok : Bool) (l : Latch) (s : State) : (readEffect ok l s).tx = s.tx := by
  unfold readEffect; split <;> simp
@[simp] theorem readEffect_inp (ok : Bool) (l : Latch) (s : State) : (readEffect ok l s).inp = s.inp := by
  unfold readEffect; split <;> simp
@[simp] theorem readEffect_within (ok : Bool) (l : Latch) (s : State) : (readEffect ok l s).within = s.within := by
  unfold readEffect; split <;> simp
@[simp] theorem readEffect_drv (ok : Bool) (l : Latch) (s : State) : (readEffect ok l s).drv = s.drv := by
  unfold readEffect; split <;> simp
@[simp] theorem readEffect_cnt (ok : Bool) (l : Latch) (s : State) : (readEffect ok l s).cnt = s.cnt := by
  unfold readEffect; split <;> simp
@[simp] theorem readEffect_lineIn (ok : Bool) (l : Latch) (s : State) : (readEffect ok l s).lineIn = s.lineIn := by
  unfold readEffect; split <;> simp
@[simp] theorem readEffect_cfgIn (ok : Bool) (l : Latch) (s : State) : (readEffect ok l s).cfgIn = s.cfgIn := by
  unfold readEffect; split <;> simp
@[simp] theorem readEffect_contactIn (ok : Bool) (l : Latch) (s : State) : (readEffect ok l s).contactIn = s.contactIn := by
  unfold readEffect; split <;> simp
@[simp] theorem readEffect_pending (ok : Bool) (l : Latch) (s : State) : (readEffect ok l s).pending = s.pending := by
  unfold readEffect; split <;> simp
@[simp] theorem takeEffect_power (ok : Bool) (l : Latch) (s : State) : (takeEffect ok l s).power = s.power := by
  unfold takeEffect; split <;> simp
@[simp] theorem takeEffect_strap (ok : Bool) (l : Latch) (s : State) : (takeEffect ok l s).strap = s.strap := by
  unfold takeEffect; split <;> simp
@[simp] theorem takeEffect_tapSelectLow (ok : Bool) (l : Latch) (s : State) : (takeEffect ok l s).tapSelectLow = s.tapSelectLow := by
  unfold takeEffect; split <;> simp
@[simp] theorem takeEffect_inputPins (ok : Bool) (l : Latch) (s : State) : (takeEffect ok l s).inputPins = s.inputPins := by
  unfold takeEffect; split <;> simp
@[simp] theorem takeEffect_ctl (ok : Bool) (l : Latch) (s : State) : (takeEffect ok l s).ctl = s.ctl := by
  unfold takeEffect; split <;> simp
@[simp] theorem takeEffect_ldr (ok : Bool) (l : Latch) (s : State) : (takeEffect ok l s).ldr = s.ldr := by
  unfold takeEffect; split <;> simp
@[simp] theorem takeEffect_img (ok : Bool) (l : Latch) (s : State) : (takeEffect ok l s).img = s.img := by
  unfold takeEffect; split <;> simp
@[simp] theorem takeEffect_eng (ok : Bool) (l : Latch) (s : State) : (takeEffect ok l s).eng = s.eng := by
  unfold takeEffect; split <;> simp
@[simp] theorem takeEffect_line (ok : Bool) (l : Latch) (s : State) : (takeEffect ok l s).line = s.line := by
  unfold takeEffect; split <;> simp
@[simp] theorem takeEffect_trk (ok : Bool) (l : Latch) (s : State) : (takeEffect ok l s).trk = s.trk := by
  unfold takeEffect; split <;> simp
@[simp] theorem takeEffect_rx (ok : Bool) (l : Latch) (s : State) : (takeEffect ok l s).rx = s.rx := by
  unfold takeEffect; split <;> simp
@[simp] theorem takeEffect_tx (ok : Bool) (l : Latch) (s : State) : (takeEffect ok l s).tx = s.tx := by
  unfold takeEffect; split <;> simp
@[simp] theorem takeEffect_inp (ok : Bool) (l : Latch) (s : State) : (takeEffect ok l s).inp = s.inp := by
  unfold takeEffect; split <;> simp
@[simp] theorem takeEffect_within (ok : Bool) (l : Latch) (s : State) : (takeEffect ok l s).within = s.within := by
  unfold takeEffect; split <;> simp
@[simp] theorem takeEffect_drv (ok : Bool) (l : Latch) (s : State) : (takeEffect ok l s).drv = s.drv := by
  unfold takeEffect; split <;> simp
@[simp] theorem takeEffect_cnt (ok : Bool) (l : Latch) (s : State) : (takeEffect ok l s).cnt = s.cnt := by
  unfold takeEffect; split <;> simp
@[simp] theorem takeEffect_lineIn (ok : Bool) (l : Latch) (s : State) : (takeEffect ok l s).lineIn = s.lineIn := by
  unfold takeEffect; split <;> simp
@[simp] theorem takeEffect_cfgIn (ok : Bool) (l : Latch) (s : State) : (takeEffect ok l s).cfgIn = s.cfgIn := by
  unfold takeEffect; split <;> simp
@[simp] theorem takeEffect_contactIn (ok : Bool) (l : Latch) (s : State) : (takeEffect ok l s).contactIn = s.contactIn := by
  unfold takeEffect; split <;> simp
@[simp] theorem takeEffect_pending (ok : Bool) (l : Latch) (s : State) : (takeEffect ok l s).pending = s.pending := by
  unfold takeEffect; split <;> simp

end Sys2Proof.Machine
end

