-- ==== Sys2Proof/Laws/Posts.lean ====
section
/-! SUPPORT. What an operation can do to the tap by posting events: nothing but placing events one after another (R163). -/

namespace Sys2Proof.Machine

/-- One tap state follows from another by placing events. -/
def Posts (t t' : Tap) : Prop := ∃ es : List Event, t' = es.foldl Tap.place t

namespace Posts

theorem refl (t : Tap) : Posts t t := ⟨[], rfl⟩

theorem of_eq {t t' : Tap} (h : t' = t) : Posts t t' := ⟨[], h⟩

theorem trans {a b c : Tap} (h : Posts a b) (h' : Posts b c) : Posts a c := by
  obtain ⟨es, rfl⟩ := h
  obtain ⟨fs, rfl⟩ := h'
  exact ⟨es ++ fs, by rw [List.foldl_append]⟩

theorem place (t : Tap) (e : Event) : Posts t (t.place e) := ⟨[e], rfl⟩

/-- An invariant of placing one event holds across any number. -/
theorem keeps {P : Tap → Prop} (hP : ∀ t e, P t → P (t.place e)) {t t' : Tap} (h : Posts t t') (ht : P t) : P t' := by
  obtain ⟨es, rfl⟩ := h
  induction es generalizing t with
  | nil => exact ht
  | cons e es ih => exact ih (hP _ _ ht)

theorem queue_grows {t t' : Tap} (h : Posts t t') : t.queue <+: t'.queue :=
  h.keeps (P := fun u => t.queue <+: u.queue) (fun u e hu => hu.trans (Tap.place_queue_grows u e))
    (List.prefix_refl _)

theorem queue_room {t t' : Tap} (h : Posts t t') (ht : t.queue.length ≤ Config.queueRoom) :
    t'.queue.length ≤ Config.queueRoom :=
  h.keeps (P := fun u => u.queue.length ≤ Config.queueRoom) (fun u e hu => Tap.place_queue_room u e hu) ht

theorem lostEvents_le {t t' : Tap} (h : Posts t t') (ht : t.lostEvents ≤ 65535) : t'.lostEvents ≤ 65535 :=
  h.keeps (P := fun u => u.lostEvents ≤ 65535) (fun u e hu => Tap.place_lostEvents_le u e hu) ht

theorem trans_eq {t t' : Tap} (h : Posts t t') : t'.trans = t.trans :=
  h.keeps (P := fun u => u.trans = t.trans) (fun u e hu => by simpa using hu) rfl

theorem published_eq {t t' : Tap} (h : Posts t t') : t'.published = t.published :=
  h.keeps (P := fun u => u.published = t.published) (fun u e hu => by simpa using hu) rfl

theorem staged_eq {t t' : Tap} (h : Posts t t') : t'.staged = t.staged :=
  h.keeps (P := fun u => u.staged = t.staged) (fun u e hu => by simpa using hu) rfl

theorem lastResult_eq {t t' : Tap} (h : Posts t t') : t'.lastResult = t.lastResult :=
  h.keeps (P := fun u => u.lastResult = t.lastResult) (fun u e hu => by simpa using hu) rfl

theorem status_eq {t t' : Tap} (h : Posts t t') : t'.status = t.status :=
  h.keeps (P := fun u => u.status = t.status) (fun u e hu => by simpa using hu) rfl

theorem dout_eq {t t' : Tap} (h : Posts t t') : t'.dout = t.dout :=
  h.keeps (P := fun u => u.dout = t.dout) (fun u e hu => by simpa using hu) rfl

end Posts

/-! ### The operations that post -/

theorem State.post_posts (kind : EventKind) (a b : Nat) (s : State) : Posts s.tap (s.post kind a b).tap := by
  unfold State.post; split
  · exact Posts.place _ _
  · exact Posts.refl _

theorem State.postAll_posts (es : List (EventKind × Nat × Nat)) (s : State) : Posts s.tap (s.postAll es).tap := by
  induction es generalizing s with
  | nil => exact Posts.refl _
  | cons e es ih => exact (s.post_posts _ _ _).trans (ih _)

/-- What a post does to the tap depends on tap, mask and round count alone. -/
theorem State.post_tap_congr {s t : State} (kind : EventKind) (a b : Nat) (htap : s.tap = t.tap) (hldr : s.ldr = t.ldr)
    (htrk : s.trk = t.trk) : (s.post kind a b).tap = (t.post kind a b).tap := by
  have ha : s.allows kind = t.allows kind := by simp [State.allows, hldr]
  unfold State.post
  rw [ha, htap, htrk]
  split
  · rfl
  · exact htap

theorem State.postAll_tap_congr (es : List (EventKind × Nat × Nat)) (s t : State) (htap : s.tap = t.tap)
    (hldr : s.ldr = t.ldr) (htrk : s.trk = t.trk) : (s.postAll es).tap = (t.postAll es).tap := by
  induction es generalizing s t with
  | nil => exact htap
  | cons e es ih =>
    exact ih _ _ (State.post_tap_congr _ _ _ htap hldr htrk) (by simp [hldr]) (by simp [htrk])

theorem State.enter_posts (st : Station) (d : Nat) (s : State) : Posts s.tap (s.enter st d).tap := by
  simpa [State.enter] using State.post_posts .state st.code d (s.moveTo st)

theorem State.enterListen_posts (d : Nat) (s : State) : Posts s.tap (s.enterListen d).tap :=
  State.enter_posts _ _ s.clearLosses

theorem State.enterTxFault_posts (s : State) : Posts s.tap s.enterTxFault.tap :=
  State.enter_posts _ _
    { s with ctl := { s.ctl with txHeld := true }, trk := s.trk.stopTimer, line := { s.line with mark := none } }

theorem State.postLoading_posts (d : Nat) (s : State) : Posts s.tap (s.postLoading d).tap := State.post_posts _ _ _ _

theorem State.noteTag_posts (n : StationNo) (r : Member) (tag : BitVec 10) (s : State) :
    Posts s.tap (s.noteTag n r tag).tap := by
  unfold State.noteTag; split
  · exact State.post_posts _ _ _ (s.setMember n _)
  · exact Posts.refl _

theorem State.allocate_posts (n : StationNo) (w : Nat) (s : State) : Posts s.tap (s.allocate n w).tap := by
  simp only [State.allocate]; split
  · exact Posts.of_eq (by simp)
  · exact (Posts.of_eq (by simp)).trans (State.post_posts _ _ _ _)

theorem State.writePoints_posts (n : StationNo) (w : Nat) (pts : List Byte) (s : State) :
    Posts s.tap (s.writePoints n w pts).tap := by
  unfold State.writePoints; split
  · exact Posts.refl _
  · dsimp only
    generalize (if w ≤ _ then Placement.full else Placement.truncated) = p
    split
    · exact (Posts.of_eq (by simp)).trans (State.post_posts _ _ _ _)
    · exact Posts.of_eq (by simp)

theorem State.refreshRecord_posts (h : Header) (pts : List Byte) (s : State) :
    Posts s.tap (s.refreshRecord h pts).tap := by
  simp only [State.refreshRecord]
  refine Posts.trans ?_ (State.writePoints_posts _ _ _ _)
  refine Posts.trans (b := (State.noteTag h.station (s.member h.station) h.tag
    ((s.setMember h.station ((s.member h.station).refreshed h)).postAll
      (refreshEvent (s.member h.station).presence h.station))).tap) ?_ ?_
  · exact (State.postAll_posts _ (s.setMember h.station _)).trans (State.noteTag_posts _ _ _ _)
  · split
    · exact State.allocate_posts _ _ _
    · exact Posts.refl _

theorem State.peerData_posts (h : Header) (pts : List Byte) (s : State) : Posts s.tap (s.peerData h pts).tap := by
  simp only [State.peerData]; split
  · exact Posts.refl _
  · exact State.refreshRecord_posts _ _ _

theorem State.peerLeave_posts (n : StationNo) (s : State) : Posts s.tap (s.peerLeave n).tap := by
  simp only [State.peerLeave]; split
  · exact Posts.refl _
  · exact State.post_posts _ _ _ (s.setMember n _)

/-- The close work posts its events, those of acceptances within it at their place, and then stages one copy (R131, R161). -/
theorem State.closeWork_tap (cfg : Configuration) (cut : Option Cursor) (s : State) :
    ∃ t : State, t.tap = (s.postAll (s.withInputs cfg (s.closeEvents cfg cut))).tap ∧ Posts s.tap t.tap ∧
      (s.closeWork cfg cut).tap = t.stageCopy.tap := by
  have h := State.postAll_tap_congr (s.withInputs cfg (s.closeEvents cfg cut))
    ((s.evaluatedAtClose cfg cut).controlAtClose cfg) s (by simp) (by simp) (by simp)
  refine ⟨_, ?_, ?_, rfl⟩
  · rw [State.setOutputs_tap, h]
  · rw [State.setOutputs_tap, h]
    exact State.postAll_posts _ s

theorem State.attemptLost_posts (s : State) : Posts s.tap s.attemptLost.tap := by
  simp only [State.attemptLost]; split
  · exact State.enterTxFault_posts
      (State.count Counters.bumpAttemptsLost { s with tx := { s.tx.settle with losses := _ } })
  · split
    · exact State.enter_posts _ _
        (State.count Counters.bumpAttemptsLost { s with tx := { s.tx.settle with losses := _ } })
    · exact Posts.refl _

theorem State.loseUnderMark_posts (s : State) : Posts s.tap s.loseUnderMark.tap := by
  unfold State.loseUnderMark; split
  · exact State.attemptLost_posts _
  · exact Posts.refl _

theorem State.attemptWasSent_posts (s : State) : Posts s.tap s.attemptWasSent.tap := by
  simp only [State.attemptWasSent]; split
  · exact State.enter_posts _ _ (State.count Counters.bumpFramesSent { s with tx := { s.tx.settle with losses := 0 } })
  · exact Posts.refl _

theorem State.settleTakenOver_posts (own : Bool) (s : State) : Posts s.tap (s.settleTakenOver own).tap := by
  unfold State.settleTakenOver; repeat' split
  all_goals first
    | exact Posts.refl _
    | exact State.attemptLost_posts _

theorem State.noteSighting_posts (s : State) : Posts s.tap s.noteSighting.tap := by
  unfold State.noteSighting; split
  all_goals first
    | exact Posts.refl _
    | exact State.enter_posts _ _ _

theorem State.handOn_posts (cfg : Configuration) (kind : FrameKind) (h : Header) (pts : List Byte) (s : State) :
    Posts s.tap (s.handOn cfg kind h pts).tap := by
  unfold State.handOn; repeat' split
  · exact State.noteSighting_posts (s.setMember cfg.own _)
  · exact State.peerData_posts _ _ _
  · exact State.peerLeave_posts _ _

theorem State.sortFrame_posts (cfg : Configuration) (start : Walk) (kind : FrameKind) (h : Header) (pts : List Byte)
    (s : State) : Posts s.tap (s.sortFrame cfg start kind h pts).tap := by
  unfold State.sortFrame; repeat' split
  · exact Posts.refl _
  · exact Posts.refl _
  · exact Posts.refl _
  · exact State.handOn_posts _ _ _ _ _
  · exact (Posts.of_eq (State.slip_tap ..)).trans (State.handOn_posts _ _ _ _ _)
  · exact State.handOn_posts _ _ _ _ (State.count Counters.bumpOutOfSlot s)

theorem State.countAndSort_posts (cfg : Configuration) (start : Walk) (v : Verdict) (s : State) :
    Posts s.tap (s.countAndSort cfg start v).tap := by
  unfold State.countAndSort; repeat' split
  · exact Posts.refl _
  · exact Posts.refl _
  · exact State.sortFrame_posts _ _ _ _ _ (State.count Counters.bumpGood s)
  · exact Posts.refl _

theorem State.foreignFrame_posts (cfg : Configuration) (start : Walk) (body : List Byte) (lossFirst : Bool)
    (s : State) : Posts s.tap (s.foreignFrame cfg start body lossFirst).tap := by
  simp only [State.foreignFrame]; split
  · exact (State.settleTakenOver_posts _ _).trans (State.countAndSort_posts _ _ _ _)
  · exact (State.countAndSort_posts _ _ _ _).trans (State.settleTakenOver_posts _ _)

theorem State.enterStuck_posts (s : State) : Posts s.tap s.enterStuck.tap :=
  State.enter_posts _ _
    { s with
      line := { s.line with mark := none }
      trk := { s.trk.stopTimer with walk := .idle, inMark := false }
      rx := Receiver.fresh
      tx := s.tx.settle }

theorem State.acceptInputs_posts (cfg : Configuration) (inputs : Vector InputState 16) (s : State) :
    Posts s.tap (s.acceptInputs cfg inputs).tap := by
  dsimp only [State.acceptInputs]
  refine Posts.trans (Posts.of_eq ?_) (State.postAll_posts _ _)
  rfl

theorem State.configGood_posts (raw : BitVec 16) (s : State) : Posts s.tap (s.configGood raw).tap := by
  dsimp only [State.configGood]
  refine Posts.trans (Posts.of_eq ?_) (State.enterListen_posts _ _)
  rfl

theorem State.configBad_posts (reason : CheckReason) (s : State) : Posts s.tap (s.configBad reason).tap :=
  State.enter_posts _ _ { s with ldr := Loader.reset }

end Sys2Proof.Machine
end

