-- ==== Sys2Proof/Laws/Tap.lean ====
section
/-! SUPPORT. What a tap command can do (R155, R156, R158), said once for all twelve commands and for MALFORMED. -/

namespace Sys2Proof.Machine

/-! ### Bits and bytes of a transaction (R156) -/

theorem byteOfBits_bits (b : Byte) :
    byteOfBits (b.getLsbD 7) (b.getLsbD 6) (b.getLsbD 5) (b.getLsbD 4) (b.getLsbD 3) (b.getLsbD 2) (b.getLsbD 1)
      (b.getLsbD 0) = b := by
  ext i hi
  have : i = 0 ∨ i = 1 ∨ i = 2 ∨ i = 3 ∨ i = 4 ∨ i = 5 ∨ i = 6 ∨ i = 7 := by omega
  rcases this with rfl | rfl | rfl | rfl | rfl | rfl | rfl | rfl <;> simp [byteOfBits, bitsOf, BitVec.getElem_cons]

/-- The bits of bytes spell those bytes. -/
@[simp] theorem bytesOfBits_bitsOfBytes (l : List Byte) : bytesOfBits (bitsOfBytes l) = l := by
  induction l with
  | nil => rfl
  | cons b bs ih =>
    show byteOfBits _ _ _ _ _ _ _ _ :: bytesOfBits (bitsOfBytes bs) = b :: bs
    rw [byteOfBits_bits, ih]

@[simp] theorem length_bitsOfBytes (l : List Byte) : (bitsOfBytes l).length = 8 * l.length := by
  induction l with
  | nil => rfl
  | cons b bs ih => simp [bitsOfBytes, bitsOfByte, ih]; omega

/-- What a transaction has taken in once all bytes of a known command have arrived (R155). -/
theorem Opened.ofBits_command (code : Byte) (args : List Byte) (h : tapArguments code.toNat = some args.length) :
    Opened.ofBits (bitsOfBytes (code :: args)) = { code := some code, args := args, spare := [], latch := none } := by
  simp [Opened.ofBits, h]

@[simp] theorem Opened.ofBits_nil : Opened.ofBits [] = Opened.fresh := rfl

@[simp] theorem Opened.ofBits_latch (bits : List Level) : (Opened.ofBits bits).latch = none := by
  unfold Opened.ofBits; split <;> rfl

@[simp] theorem Opened.length_shifted (status : Byte) (o : Opened) (clocks : Nat) :
    (o.shifted status clocks).length = clocks := by
  simp only [Opened.shifted, List.length_append, List.length_take, List.length_replicate]; omega

@[simp] theorem State.transact_transact (o o' : Opened) (n n' : Nat) (s : State) :
    (s.transact o n).transact o' n' = s.transact o' n' := rfl

/-! ### The parts of a transaction -/

/-- Bits that arrive leave the part as it was, or move the open transaction alone. -/
theorem State.arrive_cases (bits : List Level) (latch : Option Latch) (clocks : Nat) (s : State) :
    s.arrive bits latch clocks = s ∨
      (s.tap.trans ≠ .idle ∧
        ∃ o, s.arrive bits latch clocks = s.transact o (s.tap.dout.length + clocks)) := by
  unfold State.arrive
  rcases h : s.tap.trans with _ | o
  · exact .inl rfl
  · dsimp only
    split
    · split
      · exact .inr ⟨by simp, _, rfl⟩
      · exact .inl rfl
    · split
      · split <;> exact .inr ⟨by simp, _, rfl⟩
      · exact .inl rfl

/-- The bits that are left complete the command (R156): its response is fixed. -/
theorem State.arrive_completes (bits : List Level) (latch : Option Latch) (clocks : Nat) (s : State)
    (h : s.tap.trans = .opened (Opened.ofBits (bits.take s.tap.dout.length)))
    (hc : bits.length ≤ s.tap.dout.length + clocks) :
    s.arrive bits latch clocks =
      s.transact { Opened.ofBits bits with latch := latch } (s.tap.dout.length + clocks) := by
  simp [State.arrive, h, hc]

/-- What the rising edge can find: no transaction, none of this command, or this command held. -/
theorem State.rise_cases (bits : List Level) (clocks : Nat) (effect : Latch → State → State) (s : State) :
    s.rise bits clocks effect = s ∨ (s.tap.trans = .idle ∧ s.rise bits clocks effect = s.selectHigh) ∨
      ∃ l, s.tap.trans = .opened { Opened.ofBits bits with latch := some l } ∧
        s.rise bits clocks effect =
          (effect l (s.transact { Opened.ofBits bits with latch := some l } (s.tap.dout.length + clocks))).endTransaction := by
  unfold State.rise
  rcases h : s.tap.trans with _ | o
  · exact .inr (.inl ⟨rfl, rfl⟩)
  · dsimp only
    split
    · exact .inl rfl
    · rename_i l _
      split
      · rename_i ho; exact .inr (.inr ⟨l, by rw [← ho], by rw [← ho]⟩)
      · exact .inl rfl

/-- Everything a tap command can do: nothing; the pin alone; the open transaction moved on; its effect and the end of the
transaction. -/
theorem State.tapCommand_cases (code : Nat) (args : List Byte) (part : TapPart) (response : State → List Byte)
    (take : State → Nat) (effect : Latch → State → State) (s : State) :
    s.tapCommand code args part response take effect = s ∨
      s.tapCommand code args part response take effect = s.selectHigh ∨
      (∃ o clocks, s.tap.trans ≠ .idle ∧
        s.tapCommand code args part response take effect = s.transact o clocks) ∨
      ∃ l o clocks, s.tap.trans ≠ .idle ∧
        s.tapCommand code args part response take effect = (effect l (s.transact o clocks)).endTransaction := by
  cases part with
  | arriving clocks =>
    rcases s.arrive_cases (bitsOfBytes (byteOf code :: args)) (some ⟨response s, take s⟩) clocks with h | ⟨h', o, h⟩
    · exact .inl h
    · exact .inr (.inr (.inl ⟨o, _, h', h⟩))
  | complete =>
    rcases s.arrive_cases (bitsOfBytes (byteOf code :: args)) (some ⟨response s, take s⟩)
      ((bitsOfBytes (byteOf code :: args)).length - s.tap.dout.length) with h | ⟨h', o, h⟩
    · exact .inl h
    · exact .inr (.inr (.inl ⟨o, _, h', h⟩))
  | rising clocks =>
    rcases s.rise_cases (bitsOfBytes (byteOf code :: args)) clocks effect with h | ⟨_, h⟩ | ⟨l, hl, h⟩
    · exact .inl h
    · exact .inr (.inl h)
    · exact .inr (.inr (.inr ⟨l, _, _, by simp [hl], h⟩))
  | whole clocks =>
    simp only [State.tapCommand]
    rcases s.arrive_cases (bitsOfBytes (byteOf code :: args)) (some ⟨response s, take s⟩)
      ((bitsOfBytes (byteOf code :: args)).length - s.tap.dout.length) with h | ⟨h', o, h⟩
    · rw [h]
      rcases s.rise_cases (bitsOfBytes (byteOf code :: args)) clocks effect with h | ⟨_, h⟩ | ⟨l, hl, h⟩
      · exact .inl h
      · exact .inr (.inl h)
      · exact .inr (.inr (.inr ⟨l, _, _, by simp [hl], h⟩))
    · rw [h]
      rcases State.rise_cases (bitsOfBytes (byteOf code :: args)) clocks effect (s.transact o _) with
        g | ⟨g', _⟩ | ⟨l, _, g⟩
      · rw [g]; exact .inr (.inr (.inl ⟨_, _, h', rfl⟩))
      · exact absurd g' (by simp)
      · exact .inr (.inr (.inr ⟨l, _, _, h', by rw [g, State.transact_transact]⟩))

/-- A held command takes effect at the rising edge (R156). -/
theorem State.tapCommand_rising (code : Nat) (args : List Byte) (clocks : Nat) (response : State → List Byte)
    (take : State → Nat) (effect : Latch → State → State) (l : Latch) (s : State)
    (hn : tapArguments (byteOf code).toNat = some args.length) (h : s.tap.trans =
      .opened { code := some (byteOf code), args := args, spare := [], latch := some l }) :
    s.tapCommand code args (.rising clocks) response take effect =
      (effect l (s.transact { code := some (byteOf code), args := args, spare := [], latch := some l }
        (s.tap.dout.length + clocks))).endTransaction := by
  simp only [State.tapCommand]
  unfold State.rise
  rw [h, Opened.ofBits_command _ _ hn]
  simp

/-- A command whose bits have all arrived is held, its response fixed (R156). -/
theorem State.tapCommand_complete (code : Nat) (args : List Byte) (response : State → List Byte) (take : State → Nat)
    (effect : Latch → State → State) (s : State) (hn : tapArguments (byteOf code).toNat = some args.length)
    (h : s.tap.trans = .opened (Opened.ofBits ((bitsOfBytes (byteOf code :: args)).take s.tap.dout.length)))
    (hl : s.tap.dout.length ≤ 8 * (args.length + 1)) :
    s.tapCommand code args .complete response take effect =
      s.transact
        { code := some (byteOf code), args := args, spare := []
          latch := some { response := response s, take := take s } } (8 * (args.length + 1)) := by
  have hb : (bitsOfBytes (byteOf code :: args)).length = 8 * (args.length + 1) := by simp
  simp only [State.tapCommand]
  rw [State.arrive_completes _ _ _ _ h (by omega), Opened.ofBits_command _ _ hn, hb]
  congr 1
  omega

/-! ### The effects (R109, R110, R115, R116, R15, R164, R166) -/

theorem State.withdrawEffect_cases (s : State) :
    (s.ctl.station = .active ∧ s.ctl.withdrawalPending = false ∧
        s.withdrawEffect = State.result .accepted { s with ctl := { s.ctl with withdrawalPending := true } }) ∨
      s.withdrawEffect = s.result .refused := by
  unfold State.withdrawEffect; split
  · rename_i h; exact .inl ⟨h.1, h.2, rfl⟩
  · exact .inr rfl

theorem State.rejoinEffect_cases (s : State) :
    (s.ctl.station = .active ∧ s.ctl.withdrawalPending = true ∧
        s.rejoinEffect = State.result .accepted { s with ctl := { s.ctl with withdrawalPending := false } }) ∨
      (s.ctl.station = .withdrawn ∧ s.rejoinEffect = (s.enterListen detailRejoined).result .accepted) ∨
      s.rejoinEffect = s.result .refused := by
  unfold State.rejoinEffect
  split
  · rename_i h
    split
    · rename_i hp; exact .inl ⟨h, hp, rfl⟩
    · exact .inr (.inr rfl)
  · rename_i h; exact .inr (.inl ⟨h, rfl⟩)
  all_goals exact .inr (.inr rfl)

theorem State.repackEffect_cases (s : State) :
    (s.ctl.station.unconfigured = false ∧
        s.repackEffect = State.result .accepted { s with img := { s.img with repackPending := true } }) ∨
      (s.ctl.station.unconfigured = true ∧ s.repackEffect = s.result .refused) := by
  unfold State.repackEffect
  cases h : s.ctl.station.unconfigured <;> simp

theorem State.loadEffect_cases (image : List Byte) (s : State) :
    (s.ctl.station = .loading ∧ s.ldr.phase = .waiting ∧
        s.loadEffect image = State.result .accepted { s with ldr := { s.ldr with phase := .checking, buffer := image } }) ∨
      (s.ctl.station = .loading ∧ s.ldr.phase ≠ .waiting ∧ s.loadEffect image = s.result .refused) ∨
      (s.ctl.station ≠ .loading ∧ s.loadEffect image = s.loadEntry image) := by
  unfold State.loadEffect
  cases h : s.ctl.station <;> cases h' : s.ldr.phase <;> simp

/-- What ends a transaction without a complete known command can do (R156). -/
theorem State.riseMalformed_cases (bits : List Level) (s : State) :
    s.riseMalformed bits = s ∨ s.riseMalformed bits = s.selectHigh ∨
      (s.tap.trans = .opened (Opened.ofBits bits) ∧ s.riseMalformed bits = (s.result .malformed).endTransaction) := by
  unfold State.riseMalformed
  rcases h : s.tap.trans with _ | o
  · exact .inr (.inl rfl)
  · dsimp only
    split
    · rename_i ho; exact .inr (.inr ⟨by rw [← ho], rfl⟩)
    · exact .inl rfl

end Sys2Proof.Machine
end

