-- ==== Sys2Proof/Laws/Image.lean ====
section
/-! SUPPORT. What each operation of the image store makes of the image and of a member record (Chapter 1), as equations. -/

namespace Sys2Proof.Machine

/-! ### One frame (R4, R5, R12, R13, R81, R83) -/

theorem State.countRepeat_member (n m : StationNo) (s : State) :
    (s.countRepeat n).member m =
      if m = n then { s.member n with repeats := add8 (s.member n).repeats 1 } else s.member m := by
  simp [State.countRepeat, State.member_setMember]

theorem State.countRepeat_img (n : StationNo) (s : State) :
    (s.countRepeat n).img =
      (s.setMember n { s.member n with repeats := add8 (s.member n).repeats 1 }).img := rfl

theorem State.noteTag_img (n : StationNo) (before : Member) (tag : BitVec 10) (s : State) :
    (s.noteTag n before tag).img =
      if before.tagDiffers tag then
        (s.setMember n { s.member n with tagChanges := add8 (s.member n).tagChanges 1 }).img
      else s.img := by
  unfold State.noteTag; split <;> simp

theorem State.noteTag_member (n m : StationNo) (before : Member) (tag : BitVec 10) (s : State) :
    (s.noteTag n before tag).member m =
      if m = n ∧ before.tagDiffers tag = true then
        { s.member n with tagChanges := add8 (s.member n).tagChanges 1 }
      else s.member m := by
  unfold State.noteTag
  by_cases h : before.tagDiffers tag = true <;> simp [h, State.member_setMember]

theorem State.allocate_img (n : StationNo) (wanted : Nat) (s : State) :
    (s.allocate n wanted).img =
      { s.img with
        roster := s.img.roster.set n.val
          { s.member n with placement := (placementFor (Config.poolPoints - freePointer s.img.table) wanted).1 }
        table := appendEntry s.img.table n
          (placementFor (Config.poolPoints - freePointer s.img.table) wanted).2 } := by
  simp only [State.allocate]; split <;> simp [State.setMember]

theorem State.allocate_member (n m : StationNo) (wanted : Nat) (s : State) :
    (s.allocate n wanted).member m =
      if m = n then
        { s.member n with placement := (placementFor (Config.poolPoints - freePointer s.img.table) wanted).1 }
      else s.member m := by
  have h := State.member_setMember n m
    { s.member n with placement := (placementFor (Config.poolPoints - freePointer s.img.table) wanted).1 } s
  rw [← h, State.member, State.allocate_img]
  rfl

theorem State.writePoints_img (n : StationNo) (w : Nat) (points : List Byte) (s : State) :
    (s.writePoints n w points).img =
      match entryOf s.img.table n with
      | none => s.img
      | some e =>
        { s.img with
          roster := s.img.roster.set n.val
            { s.member n with placement := if w ≤ e.length then .full else .truncated }
          pool := s.img.pool.write e w points } := by
  unfold State.writePoints
  cases entryOf s.img.table n with
  | none => rfl
  | some e =>
    dsimp only
    generalize (if w ≤ e.length then Placement.full else Placement.truncated) = p
    split <;> simp [State.setMember]

theorem State.writePoints_member (n m : StationNo) (w : Nat) (points : List Byte) (s : State) :
    (s.writePoints n w points).member m =
      match entryOf s.img.table n with
      | none => s.member m
      | some e =>
        if m = n then { s.member n with placement := if w ≤ e.length then .full else .truncated }
        else s.member m := by
  rw [State.member, State.writePoints_img]
  cases entryOf s.img.table n with
  | none => rfl
  | some e => exact State.member_setMember n m _ s

theorem State.writePoints_table (n : StationNo) (w : Nat) (points : List Byte) (s : State) :
    (s.writePoints n w points).img.table = s.img.table := by
  rw [State.writePoints_img]; split <;> rfl

/-- A repeat is counted and a first frame refreshes (R81, R82). -/
theorem State.peerData_cases (h : Header) (points : List Byte) (s : State) :
    ((s.member h.station).heard = true ∨ (s.member h.station).seqDiff h.seq = some 0) ∧
        s.peerData h points = s.countRepeat h.station ∨
      (s.member h.station).heard = false ∧ (s.member h.station).seqDiff h.seq ≠ some 0 ∧
        s.peerData h points = s.refreshRecord h points := by
  unfold State.peerData
  by_cases h1 : (s.member h.station).heard = true
  · left; simp [h1]
  · by_cases h2 : (s.member h.station).seqDiff h.seq = some 0
    · left; simp [h2]
    · right
      have h1' : (s.member h.station).heard = false := by simpa using h1
      simp [h1', h2]

theorem State.peerLeave_member (n m : StationNo) (s : State) :
    (s.peerLeave n).member m =
      if m = n ∧ ¬ ((s.member n).presence = .absent ∧ (s.member n).reason = some .left) then (s.member n).departed
      else s.member m := by
  unfold State.peerLeave
  by_cases hu : (s.member n).presence = .unseen
  · have hd : (s.member n).departed = s.member n := by unfold Member.departed; simp [hu]
    simp only [hu, true_or, if_true, hd]
    by_cases hm : m = n
    · subst hm; simp
    · simp [hm]
  · by_cases hl : (s.member n).presence = .absent ∧ (s.member n).reason = some .left
    · simp [hl]
    · simp only [hu, hl, or_self, if_false, State.post_member, State.member_setMember, not_false_eq_true, and_true]

theorem State.peerLeave_table (n : StationNo) (s : State) : (s.peerLeave n).img.table = s.img.table := by
  simp only [State.peerLeave]; split <;> simp

/-- Whatever a refresh does, it acts on the frame's own record and leaves every other record alone. -/
theorem State.refreshRecord_member_of_ne (h : Header) (points : List Byte) (m : StationNo) (s : State)
    (hm : m ≠ h.station) : (s.refreshRecord h points).member m = s.member m := by
  simp only [State.refreshRecord]
  have base : ((((s.setMember h.station ((s.member h.station).refreshed h)).postAll
      (refreshEvent (s.member h.station).presence h.station)).noteTag h.station (s.member h.station)
        h.tag)).member m = s.member m := by
    rw [State.noteTag_member, if_neg (fun e => hm e.1), State.postAll_member, State.member_setMember, if_neg hm]
  split
  · rw [State.writePoints_member]
    split
    · rw [State.allocate_member, if_neg hm, base]
    · rw [if_neg hm, State.allocate_member, if_neg hm, base]
  · rw [State.writePoints_member]
    split
    · exact base
    · rw [if_neg hm, base]

/-! ### The close (R8, R17–R19) -/

theorem State.ageAll_img (cfg : Configuration) (cut : Option Cursor) (s : State) :
    (s.ageAll cfg cut).img =
      { s.img with roster := mapRoster (fun n r => r.closed cfg.grace (exemptUnder cut n)) s.img.roster } := by
  simp [State.ageAll]

/-- A record after step 1 of a close. -/
theorem State.ageAll_member (cfg : Configuration) (cut : Option Cursor) (s : State) (n : StationNo) :
    (s.ageAll cfg cut).member n = (s.member n).closed cfg.grace (exemptUnder cut n) := by
  simp [State.member, State.ageAll_img]

theorem State.repack_img (cfg : Configuration) (s : State) :
    (s.repack cfg).img =
      { s.img with
        roster := mapRoster (Member.repacked cfg.own (rebuildTable cfg s.img.roster)) s.img.roster
        table := rebuildTable cfg s.img.roster
        pool := s.img.pool.moved s.img.table (rebuildTable cfg s.img.roster)
        repackPending := false } := by
  simp [State.repack]

/-- A record after a repack. -/
theorem State.repack_member (cfg : Configuration) (s : State) (n : StationNo) :
    (s.repack cfg).member n = (s.member n).repacked cfg.own (rebuildTable cfg s.img.roster) n := by
  simp [State.member, State.repack_img]

theorem State.repackIfDue_cases (cfg : Configuration) (s : State) :
    (s.repackDue cfg = true ∧ s.repackIfDue cfg = s.repack cfg) ∨
      (s.repackDue cfg = false ∧ s.repackIfDue cfg = s) := by
  unfold State.repackIfDue
  cases s.repackDue cfg <;> simp

theorem State.evaluateTerms_img (cfg : Configuration) (snapshot : BitVec 64) (s : State) :
    (s.evaluateTerms cfg snapshot).img =
      { s.img with
        own := s.img.own.map fun own =>
          updateOwn cfg own (termLevel (termValues (evaluate cfg snapshot s.img s.eng.terms))) } := by
  simp [State.evaluateTerms]

theorem State.evaluateTerms_eng (cfg : Configuration) (snapshot : BitVec 64) (s : State) :
    (s.evaluateTerms cfg snapshot).eng =
      { terms := evaluate cfg snapshot s.img s.eng.terms
        stale := staleAfter (evaluate cfg snapshot s.img s.eng.terms) cfg.terms.length } := rfl

/-- A term number outside the table keeps its state; one of the table is evaluated (R27, R28). -/
theorem evaluate_get (cfg : Configuration) (snapshot : BitVec 64) (img : Image) (terms : Vector TermState 16)
    (j : TermNo) :
    (evaluate cfg snapshot img terms).get j =
      match cfg.terms[j.val]? with
      | none => terms.get j
      | some t => (terms.get j).next t (rawValue t (t.literals.map (resolve cfg snapshot img))) := by
  exact Vector.get_ofFn _ _

/-- Acceptances within a close move own points alone in the image (R131). -/
theorem State.takeWithin_img (cfg : Configuration) (s : State) :
    (s.takeWithin cfg).img = { s.img with own := (s.takeWithin cfg).img.own } := by
  unfold State.takeWithin; split <;> rfl

@[simp] theorem State.takeWithin_member (cfg : Configuration) (s : State) (n : StationNo) :
    (s.takeWithin cfg).member n = s.member n := by
  unfold State.member; rw [State.takeWithin_img]

/-- The image that the term engine reads at a close (R7). -/
def State.imageAtEvaluation (cfg : Configuration) (cut : Option Cursor) (s : State) : Image :=
  (((s.takeWithin cfg).ageAll cfg cut).repackIfDue cfg).img

/-- The image of a close is what its first stages leave; station controller, outputs and copy do not touch it. -/
theorem State.closeWork_img (cfg : Configuration) (cut : Option Cursor) (s : State) :
    (s.closeWork cfg cut).img = (s.evaluatedAtClose cfg cut).img := by simp [State.closeWork]

/-- A record after a whole close is what the image store's two steps left (R7). -/
theorem State.closeWork_member (cfg : Configuration) (cut : Option Cursor) (s : State) (n : StationNo) :
    (s.closeWork cfg cut).member n = (s.imageAtEvaluation cfg cut).roster.get n := by
  simp [State.member, State.closeWork_img, State.evaluatedAtClose, State.evaluateTerms_img, State.imageAtEvaluation]

theorem State.closeWork_table (cfg : Configuration) (cut : Option Cursor) (s : State) :
    (s.closeWork cfg cut).img.table = (s.imageAtEvaluation cfg cut).table := by
  simp [State.closeWork_img, State.evaluatedAtClose, State.evaluateTerms_img, State.imageAtEvaluation]

theorem State.closeWork_pool (cfg : Configuration) (cut : Option Cursor) (s : State) :
    (s.closeWork cfg cut).img.pool = (s.imageAtEvaluation cfg cut).pool := by
  simp [State.closeWork_img, State.evaluatedAtClose, State.evaluateTerms_img, State.imageAtEvaluation]

/-- The term states after a close: evaluated on the image after the two steps, own literals on the snapshot (R29, R30). -/
theorem State.closeWork_terms (cfg : Configuration) (cut : Option Cursor) (s : State) :
    (s.closeWork cfg cut).eng.terms =
      evaluate cfg (s.img.own.getD 0) (s.imageAtEvaluation cfg cut) s.eng.terms := by
  simp [State.closeWork, State.evaluatedAtClose, State.evaluateTerms_eng, State.imageAtEvaluation]

end Sys2Proof.Machine
end

