-- ==== Sys2Proof/Laws/PerInstr.lean ====
section
/-! SUPPORT. One lemma per command: the bytes that spell a tap command are its known code with its arguments, and code and
arguments give the command back (R156, R170). -/

namespace Sys2Proof.Laws

/-- What a processor sends for a command that is part of a tap transaction: a known code, as many argument bytes as the code takes
when the command is well formed, and bytes that name this command and no other. -/
def TapBytes.Statement (i : Instr) : Prop :=
  ∀ part, tapPartOf i = some part →
    ∃ code args count, encodeTap i = some (code :: args) ∧ tapArguments code.toNat = some count ∧
      (i.wf = true → args.length = count) ∧ tapCommandOf code.toNat args part = some i

theorem TapBytes.powerOn (strap : Strap) : TapBytes.Statement (.powerOn strap) := by
  intro p h
  cases h

theorem TapBytes.resetNLow : TapBytes.Statement .resetNLow := by
  intro p h
  cases h

theorem TapBytes.resetNRising (strap : Strap) : TapBytes.Statement (.resetNRising strap) := by
  intro p h
  cases h

theorem TapBytes.readingComplete (bytes : List Byte) : TapBytes.Statement (.readingComplete bytes) := by
  intro p h
  cases h

theorem TapBytes.checkingComplete (raw : BitVec 16) : TapBytes.Statement (.checkingComplete raw) := by
  intro p h
  cases h

theorem TapBytes.roundTimerExpiry : TapBytes.Statement .roundTimerExpiry := by
  intro p h
  cases h

theorem TapBytes.markBegin : TapBytes.Statement .markBegin := by
  intro p h
  cases h

theorem TapBytes.markFailed : TapBytes.Statement .markFailed := by
  intro p h
  cases h

theorem TapBytes.markRelease : TapBytes.Statement .markRelease := by
  intro p h
  cases h

theorem TapBytes.markRecognised (lossFirst : Bool) : TapBytes.Statement (.markRecognised lossFirst) := by
  intro p h
  cases h

theorem TapBytes.markEnd : TapBytes.Statement .markEnd := by
  intro p h
  cases h

theorem TapBytes.slotBoundary : TapBytes.Statement .slotBoundary := by
  intro p h
  cases h

theorem TapBytes.startBit (taken : Bool) : TapBytes.Statement (.startBit taken) := by
  intro p h
  cases h

theorem TapBytes.collision (bit : Nat) : TapBytes.Statement (.collision bit) := by
  intro p h
  cases h

theorem TapBytes.transceiverFault (bit : Nat) : TapBytes.Statement (.transceiverFault bit) := by
  intro p h
  cases h

theorem TapBytes.attemptSent : TapBytes.Statement .attemptSent := by
  intro p h
  cases h

theorem TapBytes.frameReceived (levels : List Level) (lossFirst : Bool) : TapBytes.Statement (.frameReceived levels lossFirst) := by
  intro p h
  cases h

theorem TapBytes.badFrame (levels : List Level) : TapBytes.Statement (.badFrame levels) := by
  intro p h
  cases h

theorem TapBytes.stuck : TapBytes.Statement .stuck := by
  intro p h
  cases h

theorem TapBytes.lineClear : TapBytes.Statement .lineClear := by
  intro p h
  cases h

theorem TapBytes.tick (sample : Sample) : TapBytes.Statement (.tick sample) := by
  intro p h
  cases h

theorem TapBytes.inputAccepted : TapBytes.Statement .inputAccepted := by
  intro p h
  cases h

theorem TapBytes.chipSelectFalling : TapBytes.Statement .chipSelectFalling := by
  intro p h
  cases h

theorem TapBytes.readStatus (part : TapPart) : TapBytes.Statement (.readStatus part) := by
  intro p h
  cases h
  exact ⟨_, _, _, rfl, rfl, fun _ => rfl, rfl⟩

theorem TapBytes.readCounters (part : TapPart) : TapBytes.Statement (.readCounters part) := by
  intro p h
  cases h
  exact ⟨_, _, _, rfl, rfl, fun _ => rfl, rfl⟩

theorem TapBytes.readRoster (first : Byte) (last : Byte) (part : TapPart) : TapBytes.Statement (.readRoster first last part) := by
  intro p h
  cases h
  exact ⟨_, _, _, rfl, rfl, fun _ => rfl, rfl⟩

theorem TapBytes.readPoints (station : Byte) (part : TapPart) : TapBytes.Statement (.readPoints station part) := by
  intro p h
  cases h
  exact ⟨_, _, _, rfl, rfl, fun _ => rfl, rfl⟩

theorem TapBytes.readTerms (part : TapPart) : TapBytes.Statement (.readTerms part) := by
  intro p h
  cases h
  exact ⟨_, _, _, rfl, rfl, fun _ => rfl, rfl⟩

theorem TapBytes.takeEvents (n : Byte) (part : TapPart) : TapBytes.Statement (.takeEvents n part) := by
  intro p h
  cases h
  exact ⟨_, _, _, rfl, rfl, fun _ => rfl, rfl⟩

theorem TapBytes.withdraw (part : TapPart) : TapBytes.Statement (.withdraw part) := by
  intro p h
  cases h
  exact ⟨_, _, _, rfl, rfl, fun _ => rfl, rfl⟩

theorem TapBytes.rejoin (part : TapPart) : TapBytes.Statement (.rejoin part) := by
  intro p h
  cases h
  exact ⟨_, _, _, rfl, rfl, fun _ => rfl, rfl⟩

theorem TapBytes.repack (part : TapPart) : TapBytes.Statement (.repack part) := by
  intro p h
  cases h
  exact ⟨_, _, _, rfl, rfl, fun _ => rfl, rfl⟩

theorem TapBytes.clearCounters (part : TapPart) : TapBytes.Statement (.clearCounters part) := by
  intro p h
  cases h
  exact ⟨_, _, _, rfl, rfl, fun _ => rfl, rfl⟩

theorem TapBytes.restart (part : TapPart) : TapBytes.Statement (.restart part) := by
  intro p h
  cases h
  exact ⟨_, _, _, rfl, rfl, fun _ => rfl, rfl⟩

theorem TapBytes.loadConfig (image : List Byte) (part : TapPart) : TapBytes.Statement (.loadConfig image part) := by
  intro p h
  cases h
  exact ⟨_, _, _, rfl, rfl, of_decide_eq_true, rfl⟩

theorem TapBytes.malformed (bits : Incomplete) : TapBytes.Statement (.malformed bits) := by
  intro p h
  cases h

end Sys2Proof.Laws
end

