-- ==== Sys2Proof/Tests/Slice0.lean ====
section
/-! SUPPORT. Small tests against values that the spec states or that follow from it by hand, and for every statement with
hypotheses a state and operands that meet them. -/

namespace Sys2Proof.Tests

open Sys2Proof Sys2Proof.Machine

-- one thread: the kernel's evaluations below would otherwise each hold one
set_option Elab.async false

/-! ### States and frames to test on -/

/-- Station 1 of 0 to 3, period 1, grace 2, two listen rounds, one point byte: point 0 from input 0, point 1 from term 0, which asks
for point 0 of station 2. -/
def cfg : Configuration :=
  { own := 1, high := 3, tag := 5, rate := 0, period := 1, cadence := .one, phase := 0, grace := 2, listen := 2, width := 1,
    terms := [{ kind := .all, k := 1, literals := [{ station := 2, point := 0, sense := .trueWhenHigh }], hold := 1,
                release := 0, policy := .hold }]
    settle := Vector.replicate 4 0, enables := 1, mask := 0x1FFF
    points := Vector.ofFn fun i => if i.val = 0 then .input 0 else if i.val = 1 then .term 0 else .constant (i.val = 2)
    outputs := Vector.ofFn fun o => { source := if o.val = 0 then some 0 else none, invert := false, safe := o.val = 1 } }

/-- The part with that configuration in a station state and a walk. -/
def part (st : Station) (walk : Walk) : State :=
  { State.reset with
    power := .running
    ctl := { Controller.reset with station := st }
    ldr := { Loader.reset with config := some cfg }
    img := { Image.empty with own := some 4 }
    trk := { RoundTracker.reset with timer := .running 0, walk := walk }
    inp := some (Vector.replicate 16 { accepted := false, count := 0 })
    drv := { held := some 0, levels := 2 } }

/-- Station 1 ACTIVE in an open walk. -/
def active (cursor : Cursor) : State := part .active (.opened cursor)

/-- The next state, or the state itself where there is none. -/
def after (c : Instr) (s : State) : State :=
  match exec c s with
  | .next t => t
  | .fault _ => s
  | .refused _ => s

/-- A header of station `n`. -/
def header (n : StationNo) (kind : FrameKind) : Header :=
  { station := n, kind := kind.code, cadence := .one, widthCode := 0, flags := { stale := false, pool := false },
    reserved := false, seq := 9, tag := 5 }

/-- A frame of station `n` with one point byte where its kind has points. -/
def body (n : StationNo) (kind : FrameKind) : List Byte :=
  frameBody (header n kind) (match kind with
    | .data => [1]
    | .leave => [])

/-- The line levels of that frame. -/
def levels (n : StationNo) (kind : FrameKind) : List Level := lineBits (body n kind)

/-- A state whose receiver waits on a recessive line. -/
def listening (s : State) : State := { s with rx := { s.rx with prevRecessive := true } }

/-- A record as station 2's DATA frame leaves it. -/
def peer (age : Nat) (presence : Presence) : Member :=
  { Member.unseen with
    presence := presence, age := age, cadence := some .one, width := some 1, lastSeq := some 8, tag := some 5,
    flags := some { stale := false, pool := false }, placement := .full }

/-- A state that holds a record of station 2 with eight supplied points at the pool's start. -/
def withPeer (r : Member) (s : State) : State :=
  { s.setMember 2 r with
    img := { (s.setMember 2 r).img with
      table := [{ station := 2, offset := 0, length := 8 }], pool := { levels := 1, supplied := 255 } } }

/-- Station 1 sending its own DATA frame, `driven` bits of it out. -/
def sending (kind : FrameKind) (driven losses : Nat) : State :=
  let s := active (.slot 1)
  { s with
    tx := { s.tx with attempt := .driving, kind := some kind, buffer := some (body 1 kind), driven := driven,
                      losses := losses }
    rx := { s.rx with state := .receiving, ownMark := true } }

/-- Station 1 taken over in its slot. -/
def takenOver (s : State) : State :=
  { s with tx := { s.tx with attempt := .takenOver, kind := some .data, buffer := some (body 1 .data) } }

/-- A transaction that has just opened. -/
def open' (s : State) : State :=
  { s with tap := { s.tap with trans := .opened Opened.fresh, dout := [] }, tapSelectLow := true }

/-- A transaction that has taken in these bits, no command complete. -/
def after' (bits : List Level) (s : State) : State :=
  { s with
    tap := { s.tap with trans := .opened (Opened.ofBits bits), dout := List.replicate bits.length false }
    tapSelectLow := true }

/-- An open transaction with a complete command. -/
def holding (code : Byte) (args response : List Byte) (take : Nat) (s : State) : State :=
  { s with
    tap := { s.tap with
      trans := .opened { code := some code, args := args, spare := [], latch := some { response := response, take := take } }
      dout := List.replicate (8 * (args.length + 1)) false }
    tapSelectLow := true }

/-! ### Well-formed and ill-formed commands -/

theorem test_wf_reading_needs_a_byte : (Instr.readingComplete []).wf = false := by decide
theorem test_wf_reading_at_most_512 : (Instr.readingComplete (List.replicate 513 0)).wf = false := by decide +kernel
theorem test_wf_reading_one_byte : (Instr.readingComplete [0]).wf = true := by decide
theorem test_wf_collision_not_at_start_bit : (Instr.collision 0).wf = false := by decide
theorem test_wf_collision_within_frame : (Instr.collision 151).wf = false ∧ (Instr.collision 150).wf = true := by decide
theorem test_wf_fault_within_frame :
    (Instr.transceiverFault 151).wf = false ∧ (Instr.transceiverFault 0).wf = true := by decide
theorem test_wf_frame_has_an_end : (Instr.frameReceived [] false).wf = false := by decide
theorem test_wf_bad_frame_has_an_end : (Instr.badFrame []).wf = false := by decide
theorem test_wf_image_is_512_bytes : (Instr.loadConfig (List.replicate 511 0) .complete).wf = false := by decide +kernel
theorem test_wf_malformed_is_no_command : (Instr.malformed { received := [0x01] }).wf = false := by decide
theorem test_wf_malformed_is_incomplete : (Instr.malformed { received := [0x03, 0x00] }).wf = true := by decide
theorem test_wf_malformed_spare_is_less_than_a_byte :
    (Instr.malformed { received := [], spare := List.replicate 8 true }).wf = false ∧
      (Instr.malformed { received := [], spare := List.replicate 7 true }).wf = true := by decide

/-! ### Bytes of the tap (R170) -/

theorem test_tap_read_roster : decodeTap [0x03, 0x02, 0x05] .complete = .readRoster 2 5 .complete := by decide
theorem test_tap_take_events : decodeTap [0x06, 0x20] (.whole 7) = .takeEvents 32 (.whole 7) := by decide
theorem test_tap_extra_bytes_ignored : decodeTap [0x10, 0xFF, 0xFF] .complete = .withdraw .complete := by decide
theorem test_tap_unknown_code : decodeTap [0x21, 0x00] .complete = .malformed { received := [0x21, 0x00] } := by decide
theorem test_tap_incomplete : decodeTap [0x04] .complete = .malformed { received := [0x04] } := by decide
theorem test_no_table_word : decodeTableWord 8 0x03 = none := by decide

/-! ### Worked values of the spec -/

/-- R71: over the nine bytes 31h to 39h the check is 29B1h. -/
theorem test_check_value : crc [0x31, 0x32, 0x33, 0x34, 0x35, 0x36, 0x37, 0x38, 0x39] = 0x29B1 := by decide +kernel

/-- R168: station 5 sending DATA with cadence 2, width 2, STALE, sequence 41, tag 416. -/
theorem test_header_bytes :
    Header.bytes
      { station := 5, kind := 1, cadence := .two, widthCode := 1, flags := { stale := true, pool := false },
        reserved := false, seq := 41, tag := 416 } = [0x29, 0x4C, 0xA5, 0xA0] := by decide +kernel

/-- R170: ACTIVE, events waiting, an accepted command, nothing pending gives 74h. -/
theorem test_status_byte :
    State.statusByte
      { active .beforeZero with
        tap := { Tap.reset with
          lastResult := .accepted
          queue := [{ kind := .state, subject := 3, stamp := 0, detail := 0x20, afterLoss := false }] } } = 0x74 := by
  decide +kernel

/-- R68: after the start bit, three dominant body bits make a run of 4, and a recessive bit is put in. -/
theorem test_stuffing : stuff dominant 1 [false, false, false, false] = [false, false, false, true, false] := by decide

/-- R68: a run of 4 that ends with the body is followed by a stuff bit too. -/
theorem test_stuffing_at_end : stuff dominant 1 [true, true, true, true] = [true, true, true, true, false] := by decide

/-- R170: the entry to CONFIG_FAULT with reason LISTEN_RANGE at round count 0. -/
theorem test_event_record :
    Event.bytes { kind := .state, subject := 1, stamp := 0, detail := 0x6D, afterLoss := false } =
      [0x0C, 0x01, 0x00, 0x00, 0x00, 0x6D] := by decide +kernel

/-! ### One command at a time -/

/-- R106, R143: the strap low selects TAP, and the entry event is POWER_ON. -/
theorem test_power_on_waits_for_the_tap :
    (after (.powerOn .tap) State.reset).ldr.phase = .waiting ∧
      (after (.powerOn .tap) State.reset).tap.queue = [loadingEvent 0x00] := by decide +kernel

/-- R106: in the reset condition the outputs are low. -/
theorem test_reset_n_low_drops_outputs :
    (after .resetNLow (active .beforeZero)).power = .resetLow ∧ (after .resetNLow (active .beforeZero)).drv.levels = 0 := by
  decide +kernel

/-- R106: RESET_N rising with power long good has detail RESET_PIN. -/
theorem test_reset_n_rising_is_reset_pin :
    (after (.resetNRising .memory) (after .resetNLow (active .beforeZero))).tap.queue = [loadingEvent 0x01] := by
  decide +kernel

/-- R144: the read command goes out first, its most significant bit first, 03h. -/
theorem test_read_command_goes_out :
    let t := after (.powerOn .memory) State.reset
    t.cfgSelectHigh = false ∧ (List.range 8).map t.cfgDo = [false, false, false, false, false, false, true, true] ∧
      t.clock.ldr.command = [0, 0] := by decide +kernel

/-- R147: a read that RESTART cuts short begins again with the command, and chip select is seen high before it. -/
theorem test_restart_reads_afresh :
    let s := { after (.powerOn .memory) State.reset with cfgIn := [1, 2] }
    let t := after (.restart (.whole 0)) (open' s.clock.clock.clock.clock)
    t.ldr.command = [0x03, 0, 0] ∧ t.ldr.buffer = [] ∧ t.cfgSelectHigh = true ∧ t.clock.cfgSelectHigh = false := by decide +kernel

/-- R144: the 512th byte starts the checks. -/
theorem test_last_byte_starts_checking :
    (after (.readingComplete [0])
      { State.reset with power := .running, ldr := { phase := .reading, buffer := List.replicate 511 0, config := none } }).ldr.phase
      = .checking := by decide +kernel

/-- R151, R107: an image whose check fails is CONFIG_FAULT with the first reason, 61h. -/
theorem test_failed_check_is_config_fault :
    let t := after (.checkingComplete 0)
      { State.reset with power := .running, ldr := { phase := .checking, buffer := [], config := none } }
    t.ctl.station = .configFault .imageCheck ∧ t.tap.queue.map (·.detail) = [0x61] := by decide +kernel

/-- R51: an expiry in an open walk is an overrun. -/
theorem test_expiry_in_open_walk_is_overrun :
    (after .roundTimerExpiry (active .beforeZero)).cnt.overruns = 1 ∧
      (after .roundTimerExpiry (active .beforeZero)).trk.timer = .expired := by decide +kernel

/-- R50: a due mark drives the line dominant. -/
theorem test_mark_begins :
    let t := after .markBegin (after .roundTimerExpiry (part .active .closed))
    t.cnt.marksSent = 1 ∧ t.ltx = dominant := by decide +kernel

/-- R50: a failed mark leaves the flag set. -/
theorem test_failed_mark_stays_due :
    let t := after .markFailed (after .markBegin (after .roundTimerExpiry (part .active .closed)))
    t.trk.markDue = true ∧ t.line.mark = none := by decide +kernel

/-- R50: the line is released. -/
theorem test_mark_is_released :
    (after .markRelease (after .markBegin (after .roundTimerExpiry (part .active .closed)))).ltx = recessive := by
  decide +kernel

/-- R49, R56: a mark in an open walk cuts it, and the timer stands at bit 9. -/
theorem test_mark_cuts_open_walk :
    let t := after (.markRecognised false) (active (.slot 2))
    t.trk.walk = .closed ∧ t.cnt.cutCloses = 1 ∧ t.trk.timer = .running 9 := by decide +kernel

/-- R57: the round count goes from 65535 to 0. -/
theorem test_round_count_wraps :
    let s := part .active .closed
    (after .markEnd { s with trk := { s.trk with inMark := true, round := 0xFFFF } }).trk.round = 0 := by decide +kernel

/-- R55: the boundary after slot H closes the walk. -/
theorem test_boundary_after_last_slot_closes :
    (after .slotBoundary (active (.slot 3))).trk.walk = .closed ∧ (after .slotBoundary (active (.slot 2))).trk.walk =
      .opened (.slot 3) := by decide +kernel

/-- R91: the own frame is filled at the boundary of the own slot. -/
theorem test_own_slot_fills_buffer :
    (after .slotBoundary (active (.slot 0))).tx.kind = some .data ∧
      (after .slotBoundary (active (.slot 0))).tx.buffer.map List.length = some 7 := by decide +kernel

/-- R92: the sequence goes from 63 to 0 at the start bit. -/
theorem test_start_bit_wraps_sequence :
    let s := after .slotBoundary (active (.slot 0))
    (after (.startBit false) { s with tx := { s.tx with seq := 63 } }).tx.seq = 0 := by decide +kernel

/-- R94: the stuff bit after the start bit and three dominant bits of station 1 is recessive; a collision there releases the line. -/
theorem test_collision_at_first_recessive_bit :
    (after (.collision 4) (sending .data 1 0)).tx.attempt = .takenOver ∧
      (after (.collision 4) (sending .data 1 0)).cnt.collisions = 1 := by decide +kernel

/-- R97, R119: the fourth loss is LINE_FAULT with reason TX. -/
theorem test_fourth_fault_is_line_fault :
    (after (.transceiverFault 1) (sending .data 1 3)).ctl.station = .lineFault .tx ∧
      (after (.transceiverFault 1) (sending .data 1 2)).ctl.station = .active := by decide +kernel

/-- R96, R118: a sent LEAVE withdraws the station. -/
theorem test_sent_leave_withdraws :
    (after .attemptSent (sending .leave 1 3)).ctl.station = .withdrawn ∧
      (after .attemptSent (sending .leave 1 3)).tx.losses = 0 := by decide +kernel

/-- R4, R59: a peer's frame in its slot makes its record PRESENT at age 0. -/
theorem test_peer_frame_is_new_member :
    let t := after (.frameReceived (levels 2 .data) false) (listening (active (.slot 2)))
    (t.member 2).presence = .present ∧ t.tap.queue.map (·.kind) = [.memberNew] := by decide +kernel

/-- R86, R113: the own number from elsewhere is a duplicate sighting. -/
theorem test_own_number_is_duplicate :
    (after (.frameReceived (levels 1 .data) false) (listening (active (.slot 1)))).ctl.station = .duplicate := by
  decide +kernel

/-- R74: the fifth recessive bit of a run is SHORT. -/
theorem test_fifth_recessive_bit_is_short :
    (after (.badFrame [false, true, true, true, true, true]) (listening (active (.slot 2)))).cnt.badShort = 1 := by
  decide +kernel

/-- R48, R120: a stuck line stops walk and timer. -/
theorem test_stuck_line_faults :
    let t := after .stuck (active (.slot 2))
    t.ctl.station = .lineFault .stuck ∧ t.trk.timer = .stopped ∧ t.trk.walk = .idle := by decide +kernel

/-- R121: a clear line listens again. -/
theorem test_clear_line_listens : (after .lineClear (part (.lineFault .stuck) .idle)).ctl.station = .listen 0 := by
  decide +kernel

/-- R127, R129: with settle count 1 one differing tick is accepted, and own point 0 follows. -/
theorem test_tick_accepts_input :
    let t := after .inputAccepted (after (.tick { raw := 1 }) (active .beforeZero))
    t.img.own = some 5 ∧ t.tap.queue.map (·.kind) = [.input] := by decide +kernel

/-- R131: an acceptance within a close stands among its events, here behind the aging of station 2, and is no input of its evaluation. -/
theorem test_acceptance_within_close :
    let s := after (.tick { raw := 1, within := some 1 }) (withPeer (peer 0 .present) (part (.listen 1) (.opened (.slot 3))))
    let t := after .slotBoundary s
    t.tap.queue.map (·.kind) = [.memberLate, .input, .state] ∧ t.img.own = some 5 ∧ t.within = none := by decide +kernel

/-- R156, R170: chip select falling captures the status byte, 60h here, and its most significant bit is on the pin. -/
theorem test_chip_select_opens :
    let t := after .chipSelectFalling (active .beforeZero)
    t.tap.status = 0x60 ∧ t.tapDo = some false ∧ (after (.withdraw (.arriving 1)) t).tapDo = some true ∧
      (active .beforeZero).tapDo = none := by decide +kernel

/-- R155, R156: the first argument of READ ROSTER is held while the second is on its way. -/
theorem test_partial_command_is_held :
    (after (.readRoster 7 9 (.arriving 18)) (open' (active .beforeZero))).tap.trans =
      .opened { code := some 0x03, args := [7], spare := [false, false], latch := none } := by decide +kernel

/-- R158: a roster read past 31 is refused. -/
theorem test_roster_past_31_is_refused :
    (after (.readRoster 0 32 (.whole 168)) (open' (active .beforeZero))).tap.lastResult = .refused ∧
      (after (.readRoster 31 31 (.whole 168)) (open' (active .beforeZero))).tap.lastResult = .accepted := by decide +kernel

/-- R164: of two entries held out, the one whose six bytes went out is taken; the second goes with its last bit. -/
theorem test_take_events_takes_what_went_out :
    let s := open' (active .beforeZero)
    let e := loadingEvent 0
    (after (.takeEvents 2 (.whole 103)) { s with tap := { s.tap with queue := [e, e] } }).tap.queue.length = 1 ∧
      (after (.takeEvents 2 (.whole 104)) { s with tap := { s.tap with queue := [e, e] } }).tap.queue.length = 0 := by
  decide +kernel

/-- R115: WITHDRAW is refused while one is pending. -/
theorem test_withdraw_once :
    let t := after (.withdraw (.whole 0)) (open' (active .beforeZero))
    t.ctl.withdrawalPending = true ∧ (after (.withdraw (.whole 0)) (open' t)).tap.lastResult = .refused := by decide +kernel

/-- R116: REJOIN in WITHDRAWN listens, with detail REJOINED. -/
theorem test_rejoin_listens :
    let t := after (.rejoin (.whole 0)) (open' (part .withdrawn .closed))
    t.ctl.station = .listen 0 ∧ t.tap.queue.map (·.detail) = [0x11] := by decide +kernel

/-- R15: REPACK only sets its flag. -/
theorem test_repack_sets_flag :
    (after (.repack (.whole 0)) (open' (active .beforeZero))).img.repackPending = true ∧
      (after (.repack (.whole 0)) (open' (part .loading .idle))).tap.lastResult = .refused := by decide +kernel

/-- R20: CLEAR COUNTERS clears the counts of the records. -/
theorem test_clear_counters_clears_records :
    ((after (.clearCounters (.whole 0))
      (open' ((active .beforeZero).setMember 2 { peer 0 .present with missed := 7 }))).member 2).missed = 0 := by decide +kernel

/-- R109: RESTART counts itself and posts detail RESTART. -/
theorem test_restart_counts :
    let t := after (.restart (.whole 0)) (open' (active .beforeZero))
    t.ctl.restarts = 1 ∧ t.tap.queue = [loadingEvent 0x02] := by decide +kernel

/-- R110: LOAD CONFIG is refused while the memory is being read. -/
theorem test_load_config_refused_in_reading :
    let s := open' { State.reset with power := .running, ldr := { Loader.reset with phase := .reading } }
    (after (.loadConfig (List.replicate 512 0) (.whole 0)) s).tap.lastResult = .refused := by decide +kernel

/-- R156: an incomplete command is MALFORMED. -/
theorem test_malformed :
    (after (.malformed { received := [0x03, 0x00], spare := [true] }) (open' (active .beforeZero))).tap.lastResult = .malformed := by
  decide +kernel

/-- R156: eight bits of 10h are a complete WITHDRAW, however MALFORMED splits them, and end no transaction as MALFORMED. -/
theorem test_complete_bits_are_not_malformed :
    let s := open' (active .beforeZero)
    after (.malformed { received := [], spare := [false, false, false, true, false, false, false, false] }) s = s := by
  decide +kernel

/-- R45, R47: the sixth recessive bit of an open walk is a boundary. -/
theorem test_sixth_recessive_bit_is_boundary :
    let s := active (.slot 2)
    (State.clock { s with line := { s.line with run := some { level := recessive, length := 5 } } }).pending
      = [.slotBoundary] := by decide +kernel

/-- R127, R128: a contact that moves in a bit time after a tick is sampled at the next tick of the tick timer, and by no other. -/
theorem test_contact_moves_between_ticks :
    let s := active .beforeZero
    let early := State.clock { s with contactIn := [1] }
    let late := State.clock { s with contactIn := [1], line := { s.line with clocks := 7744 } }
    early.inputPins = 1 ∧ early.pending = [] ∧ early.inp = s.inp ∧ late.inputPins = 1 ∧ late.pending = [.tick { raw := 1 }] := by
  decide +kernel

/-! ### States that meet the hypotheses of the statements -/

/-- A walk that is IDLE or CLOSED is not open. -/
theorem walk_idle_not_open (cursor : Cursor) : Walk.idle ≠ .opened cursor := nofun
theorem walk_closed_not_open (cursor : Cursor) : Walk.closed ≠ .opened cursor := nofun

theorem test_witness_unmet_happenings :
    let s := part .withdrawn .idle
    let r := State.reset
    s.power = .running ∧ s.ldr.phase ≠ .reading ∧ (r.ldr.buffer ++ [0]).length ≠ 512 ∧ s.ldr.phase ≠ .checking ∧
      (∀ b, r.trk.timer ≠ .running b) ∧ s.trk.markDue = false ∧ r.ctl.station.receives = false ∧ s.trk.inMark = false ∧ s.ctl.station ≠ .active ∧
      s.tx.attempt ≠ .driving ∧ s.ctl.station ≠ .lineFault .stuck ∧ r.inp = none ∧
      r.pending = [] ∧ r.power ≠ .running ∧ r.ldr.config = none ∧ r.ldr.phase = .idle :=
  ⟨rfl, by decide, by decide, by decide, fun _ h => RoundTimer.noConfusion h, rfl, rfl, rfl, by decide, by decide, by decide, rfl, rfl,
    by decide, rfl, rfl⟩

/-- A mark due in a state that does not time, in an open walk, under a mark and while driving; a start bit without a frame, levels that
complete nothing, mismatches at bits driven at the other level and at a bit passed. -/
theorem test_witness_excluded_forms :
    let d := sending .data 5 0
    (part (.lineFault .tx) .closed).ctl.station.timing = false ∧ d.trk.walk = .opened (.slot 1) ∧
      (after .markBegin (after .roundTimerExpiry (part .active .closed))).line.mark ≠ none ∧ d.line.mark = none ∧
      d.tx.attempt = .driving ∧ (active (.slot 1)).tx.kind = none ∧ d.rx.takeAll d.trk.walk [] = some (.more d.rx) ∧
      d.tx.line[1]? ≠ some recessive ∧ d.tx.line[4]? ≠ some dominant ∧ 3 + 1 < d.tx.driven := by decide +kernel

/-- A part on a line with one bit to come, after a run. -/
def beforeBit (s : State) (e : LineBit) (r : Run) (clocks : Nat) : State :=
  { s with lineIn := [e], line := { s.line with run := some r, clocks := clocks } }

theorem test_witness_undriven_bit :
    let s := beforeBit (part .withdrawn .idle) { others := dominant, carries := true, tie := false }
      { level := recessive, length := 3 } 7999
    s.pending = [] ∧ s.power = .running ∧ s.ldr.config = some cfg ∧ s.dueNow cfg = [] ∧ s.lineIn ≠ [] ∧ s.line.mark = none ∧
      s.tx.startDue = false ∧ s.tx.attempt ≠ .driving ∧ s.line.clocks < Config.tickClocks := by decide +kernel

/-- One witness for each report: the 10th dominant bit with the receiver HELD, the 64th, the end of a mark, a boundary, a clear line. -/
theorem test_witness_reported_runs :
    let dom : LineBit := { others := dominant, carries := true, tie := false }
    let rec' : LineBit := { others := recessive, carries := true, tie := false }
    let s := part .withdrawn .idle
    let held := { s with rx := { s.rx with state := .held, level := dominant, runLength := 9 } }
    let marked := { s with trk := { s.trk with inMark := true } }
    ∀ p ∈ [(beforeBit held dom { level := dominant, length := 9 } 0), (beforeBit s dom { level := dominant, length := 63 } 0),
      (beforeBit marked rec' { level := dominant, length := 12 } 0),
      (beforeBit (active (.slot 2)) rec' { level := recessive, length := 5 } 0),
      (beforeBit (part (.lineFault .stuck) .idle) rec' { level := recessive, length := 63 } 0)],
      p.pending = [] ∧ p.power = .running ∧ p.ldr.config = some cfg ∧ p.dueNow cfg = [] ∧ p.lineIn ≠ [] ∧ p.line.mark = none ∧
        p.tx.startDue = false ∧ p.tx.attempt ≠ .driving := by decide +kernel

/-- The last bit before round bit 64 × P and the one before it; 6 recessive bits and 5. -/
theorem test_witness_expiry_and_mark_due :
    let timed (b : Nat) := { part .active .closed with trk := { (part .active .closed).trk with timer := .running b } }
    let due (n : Nat) := beforeBit (after .roundTimerExpiry (part .active .closed)) quietBit { level := recessive, length := n } 0
    (64 * cfg.period ≤ 63 + 1 ∧ 62 + 1 < 64 * cfg.period ∧
      ∀ s ∈ [timed 63, timed 62], s.pending = [] ∧ s.power = .running ∧ s.ldr.config = some cfg ∧
        ∀ inputs, s.inp = some inputs → ∀ j : Fin 16, (inputs.get j).count < 2 ^ (cfg.settle.get (groupOf j)).val) ∧
      ∀ n ∈ [5, 6], (due n).trk.timer = .expired ∧ (due n).trk.markDue = true ∧ (due n).ctl.station.timing = true ∧
        (∀ cursor, (due n).trk.walk ≠ .opened cursor) ∧ (due n).line.mark = none ∧ (due n).tx.attempt ≠ .driving := by
  have counts : ∀ inputs, (part .active .closed).inp = some inputs → ∀ j : Fin 16,
      (inputs.get j).count < 2 ^ (cfg.settle.get (groupOf j)).val := by
    intro inputs h
    cases h
    decide +kernel
  refine ⟨⟨by decide, by decide, fun s hs => ?_⟩, fun n _ => ⟨rfl, rfl, rfl, walk_closed_not_open, rfl, ?_⟩⟩
  · simp only [List.mem_cons, List.not_mem_nil, or_false] at hs
    rcases hs with rfl | rfl <;> exact ⟨rfl, rfl, rfl, counts⟩
  · exact show Attempt.idle ≠ .driving by decide

/-- The 12th bit of a mark; the own start bit due; a recessive and a dominant bit of the own frame, and its last one. -/
theorem test_witness_driven_bit :
    let bit : LineBit := { others := recessive, carries := false, tie := false }
    let marking := { beforeBit (part .active .closed) bit { level := recessive, length := 3 } 0 with
      line := { run := none, mark := some 11, clocks := 0 } }
    let start := { after .slotBoundary (active (.slot 0)) with lineIn := [bit] }
    let drives (k : Nat) := { sending .data k 0 with lineIn := [bit] }
    let last := (sending .data 0 0).tx.line.length - 1
    (∀ s ∈ [marking, start, drives 1, drives 4, drives last],
      s.pending = [] ∧ s.power = .running ∧ s.ldr.config = some cfg ∧ s.dueNow cfg = [] ∧ s.lineIn = [bit]) ∧
      start.tx.attempt = .idle ∧ start.tx.kind ≠ none ∧ start.line.mark = none ∧
      (∀ k ∈ [1, 4, last], (drives k).tx.attempt = .driving ∧ k < (drives k).tx.line.length ∧ (drives k).line.mark = none) ∧
      (drives 1).tx.line.getD 1 recessive = dominant ∧ (drives 1).tx.line.getD 4 dominant = recessive := by decide +kernel

theorem test_witness_reset_pin :
    State.reset.power = .off ∧ (after .resetNLow (part .active .idle)).power = .resetLow := by decide +kernel

/-- The first 510 bytes of an image: all zero but version, P, grace, listen rounds and width, and outputs without a source. -/
def imageBody (listen : Byte) : List Byte :=
  [1, 0, 0, 0, 0, 0, 1, 0, 0, 2, listen, 1, 0, 0, 0, 0, 0, 0, 0, 0] ++ List.replicate 412 0 ++
    (List.replicate 8 [0xFF, 0, 0]).flatten ++ List.replicate 54 0

/-- That image with its check. -/
def image (listen : Byte) : List Byte := imageBody listen ++ crcBytes (imageBody listen)

theorem image_check_passes (listen : Byte) : imageFails (image listen) .imageCheck = false := by
  have h : (imageBody listen).length = 510 := by
    unfold imageBody
    simp only [List.length_append, List.length_replicate, List.length_cons, List.length_nil]
    rfl
  rw [imageFails, image, List.take_left' h, List.drop_left' h]
  simp

theorem test_witness_passing_image : ∀ r, imageFails (image 2) r = false := by
  intro r
  cases r
  · exact image_check_passes 2
  all_goals decide +kernel

/-- The thirteenth check fails alone, and the first one fails on an image cut short. -/
theorem test_witness_failing_images :
    (imageFails (image 17) .listenRange = true ∧
      ∀ r, CheckReason.number r < CheckReason.number .listenRange → imageFails (image 17) r = false) ∧
    (imageFails [] .imageCheck = true ∧
      ∀ r, CheckReason.number r < CheckReason.number .imageCheck → imageFails [] r = false) := by
  refine ⟨⟨by decide +kernel, fun r h => ?_⟩, ⟨by decide +kernel, fun r h => ?_⟩⟩
  · cases r
    · exact image_check_passes 17
    all_goals first | decide +kernel | exact absurd h (by decide)
  · cases r <;> exact absurd h (by decide)

/-- A byte of the command, the 511th and the 512th of data, and the chip select of a read cut short. -/
theorem test_witness_reading :
    let reads (command : List Byte) (bytes : Nat) (low : Bool) : State :=
      { State.reset with
        power := .running
        ldr := { phase := .reading, buffer := List.replicate bytes 0, config := none, command := command, selectLow := low } }
    (∀ s ∈ [reads [3] 0 true, reads [] 510 true, reads [] 511 true, reads [3] 0 false],
      s.pending = [] ∧ s.power = .running ∧ s.ldr.config = none ∧ s.ldr.phase = .reading) ∧
      (reads [] 510 true).ldr.buffer.length + 1 < 512 ∧ (reads [] 511 true).ldr.buffer.length + 1 = 512 ∧
      State.reset.ldr.phase ≠ .reading ∧ (after (.readingComplete [0]) (reads [] 511 true)).ldr.phase = .checking ∧
      (after (.readingComplete [0]) (reads [] 511 true)).pending = [] := by decide +kernel

theorem test_witness_read_image :
    let s := { State.reset with ldr := { phase := .reading, buffer := List.replicate 511 0, config := none } }
    s.ldr.phase = .reading ∧ (s.ldr.buffer ++ [0]).length = 512 := by decide +kernel

theorem test_witness_mark :
    let s := after .roundTimerExpiry (part .active .closed)
    (part .active .closed).trk.timer = .running 0 ∧ s.trk.markDue = true ∧ s.ctl.station.timing = true ∧
      (∀ cursor, s.trk.walk ≠ .opened cursor) ∧ s.line.mark = none ∧ s.tx.attempt ≠ .driving :=
  ⟨rfl, rfl, rfl, walk_closed_not_open, rfl, by decide⟩

theorem test_witness_mark_recognised :
    let s := part .active .closed
    let u := active (.slot 2)
    s.ldr.config = some cfg ∧ s.ctl.station.receives = true ∧ (∀ cursor, s.trk.walk ≠ .opened cursor) ∧
      s.tx.attempt ≠ .takenOver ∧ u.ldr.config = some cfg ∧ u.ctl.station.receives = true ∧
      u.trk.walk = .opened (.slot 2) ∧ u.tx.attempt ≠ .takenOver :=
  ⟨rfl, rfl, walk_closed_not_open, by decide, rfl, rfl, rfl, by decide⟩

theorem test_witness_mark_end :
    let s := after (.markRecognised false) (part .active .closed)
    s.trk.inMark = true ∧ ∀ cursor, s.trk.walk ≠ .opened cursor :=
  ⟨by decide +kernel, by
    intro c h
    have : (after (.markRecognised false) (part .active .closed)).trk.walk = .closed := by decide +kernel
    rw [this] at h
    cases h⟩

/-- The boundaries to slot 0 and to slot H, and the one after slot H. -/
theorem test_witness_boundary :
    let a := active .beforeZero
    let b := active (.slot 2)
    let c := active (.slot 3)
    (a.trk.walk = .opened .beforeZero ∧ (0 : StationNo) ≤ cfg.high ∧ (0 : StationNo) ≠ cfg.own) ∧
      (b.trk.walk = .opened (.slot 2) ∧ (3 : StationNo) ≤ cfg.high ∧ (3 : StationNo) ≠ cfg.own) ∧
      (c.trk.walk = .opened (.slot 3) ∧ cfg.high ≤ 3) ∧
      ∀ s ∈ [a, b, c], s.ldr.config = some cfg ∧ s.ctl.station.receives = true := by decide +kernel

theorem cfg_in_range : cfg.inRange := by
  unfold Configuration.inRange
  decide +kernel

theorem test_witness_own_slot :
    let s := active (.slot 0)
    s.ldr.config = some cfg ∧ cfg.inRange ∧ s.trk.walk = .opened (.slot 0) ∧ cfg.own.val = (0 : StationNo).val + 1 ∧
      s.hadTurn cfg ∧ s.tx.attempt = .idle :=
  ⟨rfl, cfg_in_range, rfl, rfl, ⟨rfl, Or.inr (by decide)⟩, rfl⟩

theorem test_witness_close :
    let s := active (.slot 3)
    let o := open' s
    let staged := { o with tap := { o.tap with staged := some Copy.empty } }
    let ticked := after (.tick { raw := 1, within := some 0 }) s
    s.ldr.config = some cfg ∧ s.img.own = some 4 ∧ s.tap.trans = .idle ∧ s.within = none ∧
      o.ldr.config = some cfg ∧ o.tap.trans = .opened Opened.fresh ∧ o.tap.staged = none ∧
      staged.ldr.config = some cfg ∧ staged.tap.trans = .opened Opened.fresh ∧ staged.tap.staged ≠ none ∧
      ticked.ldr.config = some cfg ∧ ticked.within = some 0 ∧
      ticked.inp.map (fun f => (f.get 0).count) = some (2 ^ (cfg.settle.get (groupOf 0)).val) := by decide +kernel

/-- Station 2 ages at a close and at a cut at its slot, is exempt at a cut before it, and stands at age 255. -/
theorem test_witness_aging :
    let s := withPeer (peer 0 .present) (active (.slot 3))
    let old := withPeer { peer 255 .absent with reason := some .left } (active (.slot 3))
    s.ldr.config = some cfg ∧ (s.ageAll cfg none).repackDue cfg = false ∧
      (s.ageAll cfg (some (.slot 1))).repackDue cfg = false ∧ (s.member 2).presence ≠ .unseen ∧ (s.member 2).heard = false ∧
      (s.member 2).age < 255 ∧ (1 : StationNo) < 2 ∧ ¬ ((2 : StationNo) < 2) ∧
      (withPeer (peer 0 .present) s).ldr.config = some cfg ∧ (old.member 2).age = 255 := by decide +kernel

theorem test_witness_repack_due :
    let s := withPeer { peer 3 .absent with reason := some .silent } (active (.slot 3))
    s.ldr.config = some cfg ∧ (s.ageAll cfg none).repackDue cfg = true ∧ (s.member 2).presence = .absent ∧
      (s.member 3).presence ≠ .absent ∧
      ((active (.slot 3)).ageAll cfg none).repackDue cfg = false := by decide +kernel

/-- Station 2 PRESENT with its entry obeys the three roster laws, and every step from there answers a next state. -/
theorem test_witness_roster_laws :
    let s := withPeer (peer 0 .present) (active (.slot 2))
    s.ldr.config = some cfg ∧ RosterLaw s ∧ FieldLaw s ∧ AllocationLaw s ∧ ∃ t, step s = .next t := by
  refine ⟨rfl, ⟨by decide, by decide, rfl, ?_⟩, ?_, ⟨?_, ?_, ?_, ?_, ?_⟩, ⟨_, rfl⟩⟩
  · unfold Member.lawful
    decide +kernel
  · intro c h
    cases h
    decide +kernel
  · exact ⟨rfl, by decide, by decide, trivial⟩
  · decide +kernel
  · decide +kernel
  · intro e he
    cases he with
    | head => exact ⟨by decide +kernel, fun c h => by cases h; decide⟩
    | tail _ h => cases h
  · intro c h
    cases h
    decide +kernel

theorem test_witness_repack_keeps_peer :
    let s := withPeer (peer 0 .present) (active (.slot 2))
    (2 : StationNo) ≠ cfg.own ∧ (s.member 2).onLine = true ∧ ({ station := 2, offset := 0, length := 8 } : Entry) ∈ s.img.table := by
  decide +kernel

theorem test_witness_listen_rounds :
    let s (count : Nat) := part (.listen count) (.opened (.slot 3))
    let heard := (s 0).setMember 1 { peer 0 .present with width := none, heard := true }
    let d := part .duplicate (.opened (.slot 3))
    ((s 0).ctl.station = .listen 0 ∧ 0 + 1 < cfg.listen ∧ ((State.closeWork cfg none (s 0)).member 1).presence = .unseen) ∧
      ((s 1).ctl.station = .listen 1 ∧ cfg.listen ≤ 1 + 1 ∧ ((State.closeWork cfg none (s 1)).member 1).presence = .unseen) ∧
      ((State.closeWork cfg none heard).member 1).presence = .present ∧
      d.ctl.station = .duplicate ∧ ((State.closeWork cfg none d).member 1).presence = .unseen ∧
      (active (.slot 3)).ctl.station ≠ .duplicate := by decide +kernel

theorem test_witness_literals :
    let img := (withPeer (peer 0 .present) (active (.slot 2))).img
    let l : Literal := { station := 2, point := 7, sense := .trueWhenLow }
    l.station ≠ cfg.own ∧ (img.roster.get 2).presence = .present ∧ (img.roster.get 3).presence = .unseen ∧
      entryOf img.table 2 = some { station := 2, offset := 0, length := 8 } ∧ entryOf img.table 3 = none ∧
      l.point.val < 8 ∧ img.pool.supplied.getLsbD (0 + 7) = true ∧ img.pool.supplied.getLsbD (0 + 8) = false := by
  decide +kernel

/-- R32's example: k = 2 over three literals is TRUE with two TRUE and FALSE with two FALSE. -/
theorem test_witness_tallies :
    let t : Term := { kind := .count, k := 2, literals := [], hold := 0, release := 0, policy := .hold }
    rawValue t [.yes, .unknown, .yes] = .yes ∧ rawValue t [.no, .unknown, .no] = .no ∧
      rawValue t [.yes, .unknown, .no] = .unknown ∧ rawValue { t with kind := .all } [.no, .unknown] = .no ∧
      rawValue { t with kind := .any } [.yes, .unknown] = .yes := by decide

/-- R35: with hold 2, ARMING 1, ARMING 2, ON at the third TRUE close; R34: an UNKNOWN one under HOLD changes no phase. -/
theorem test_witness_phases :
    let t : Term := { kind := .all, k := 1, literals := [], hold := 2, release := 1, policy := .hold }
    let s0 := TermState.reset
    let s1 := s0.next t .yes
    let s2 := s1.next t .yes
    let s3 := s2.next t .yes
    s0.phase = .off ∧ s1.phase = .arming 1 ∧ 1 + 1 ≤ t.hold ∧ (s1.next t .unknown).phase = s1.phase ∧ s2.phase = .arming 2 ∧
      t.hold < 2 + 1 ∧ s3.phase = .on ∧ (s3.next t .no).phase = .disarming 1 ∧ t.release < 1 + 1 ∧
      ((s3.next t .no).next t .no).phase = .off := by decide

theorem test_witness_count_law :
    let t : Term := { kind := .all, k := 1, literals := [], hold := 2, release := 1, policy := .hold }
    (Phase.arming 2).countLaw t ∧ (Phase.disarming 1).countLaw t ∧ Phase.on.countLaw t :=
  ⟨⟨by decide, by decide⟩, ⟨by decide, by decide⟩, trivial⟩

theorem test_witness_start_bit_and_collision :
    let s := after .slotBoundary (active (.slot 0))
    let d := sending .data 1 0
    s.ctl.station = .active ∧ s.tx.attempt = .idle ∧ s.tx.kind ≠ none ∧
      d.tx.attempt = .driving ∧ d.tx.driven ≤ 4 + 1 ∧ (sending .data 5 0).tx.driven = 4 + 1 ∧
      d.tx.line[4]? = some recessive ∧ d.line.mark = none := by decide +kernel

/-- At the start bit, at the next bit, and with the loss that is the fourth. -/
theorem test_witness_transceiver_fault :
    ∀ losses ∈ [2, 3], ∀ bit ∈ [0, 1],
      let s := sending .leave 1 losses
      s.ctl.station = .active ∧ s.tx.attempt = .driving ∧ s.tx.driven ≤ bit + 1 ∧
        s.tx.line[bit]? = some dominant ∧ s.tx.kind = some .leave ∧ s.ldr.config = some cfg := by decide +kernel

theorem test_witness_sent_attempt :
    ∀ kind ∈ [FrameKind.data, .leave],
      (sending kind 1 0).tx.attempt = .driving ∧ (sending kind 1 0).tx.kind = some kind := by decide +kernel

/-- A foreign frame that takes the attempt over, with the own number and with another. -/
theorem test_witness_taken_over :
    ∀ n ∈ [(1 : StationNo), 2],
      let s := takenOver (listening (active (.slot 1)))
      s.ldr.config = some cfg ∧ s.ctl.station.receives = true ∧ s.tx.attempt = .takenOver ∧ s.rx.ownMark = false ∧
        s.rx.takeAll s.trk.walk (levels n .data) = some (.completed (body n .data)) ∧
        judge (body n .data) = .valid .data (header n .data) [1] := by decide +kernel

theorem test_witness_taken_over_otherwise :
    let s := takenOver (listening (part .active .closed))
    s.ldr.config = some cfg ∧ s.ctl.station.receives = true ∧ s.tx.attempt = .takenOver ∧
      s.rx.takeAll s.trk.walk [false, true, true, true, true, true] = some (.bad .short) ∧
      (∀ cursor, s.trk.walk ≠ .opened cursor) ∧
      let u := takenOver (active (.slot 1))
      u.tx.attempt = .takenOver ∧ u.trk.walk = .opened (.slot 1) ∧ u.ctl.station = .active ∧
        (Cursor.slot 1).below cfg.own = false :=
  ⟨rfl, rfl, rfl, by decide +kernel, walk_closed_not_open, rfl, rfl, rfl, by decide⟩

theorem test_witness_loss_and_cut :
    let s := takenOver (active (.slot 1))
    s.ldr.config = some cfg ∧ s.ctl.station = .active ∧ s.trk.walk = .opened (.slot 1) ∧
      (Cursor.slot 1).below cfg.own = false ∧ s.tx.attempt = .takenOver := by decide +kernel

theorem test_witness_frame_kinds :
    judge (body 2 .data) = .valid .data (header 2 .data) [1] ∧ judge (body 2 .leave) = .valid .leave (header 2 .leave) [] ∧
      judge (frameBody { header 2 .data with kind := 3 } []) = .header ∧
      judge (frameBody { header 2 .data with reserved := true } [1]) = .header ∧
      (body 2 .data)[0]? = some 0x11 ∧ judge ((body 2 .data).set 0 (0x11 ^^^ (1#8 <<< 7))) = .check := by decide +kernel

/-- One bad reception of each kind, in an open and in an idle walk. -/
theorem test_witness_bad_frames :
    ∀ walk ∈ [Walk.opened (.slot 2), .idle],
      let s := listening (part .withdrawn walk)
      s.ldr.config = some cfg ∧ s.ctl.station.receives = true ∧ s.tx.attempt ≠ .takenOver ∧ s.receptionWalk = walk ∧
        s.rx.takeAll s.trk.walk [false, true, true, true, true, true] = some (.bad .short) ∧
        s.rx.takeAll s.trk.walk [false, false, false, false, false, true] = some (.bad .stuff) ∧
        s.rx.takeAll s.trk.walk [false, false, false, false, false, false, true] = some (.bad .disturbed) ∧
        s.rx.takeAll s.trk.walk ((levels 2 .data).dropLast ++ [true]) = some (.bad .framing) := by decide +kernel

theorem test_witness_full_runs :
    let r (level : Level) : Receiver := { Receiver.fresh with state := .receiving, level := level, runLength := 4 }
    (r dominant).state = .receiving ∧ (r dominant).runLength = 4 ∧ (r recessive).level = recessive := by decide

/-- The receiver with all but the end bit of a frame. -/
theorem test_witness_end_bit :
    let r := Receiver.hear .closed { Receiver.fresh with prevRecessive := true } (levels 2 .data).dropLast
    r.state = .receiving ∧ r.runLength < 4 ∧ expectedBits r.bits = some 56 ∧ 56 ≤ r.bits.length := by decide +kernel

/-- Frames that complete in an idle, a closed and an open walk, from stations up to and beyond H. -/
theorem test_witness_hears :
    State.hears (listening (part .withdrawn (.opened (.slot 2)))) cfg (levels 4 .data) (.opened (.slot 2)) (body 4 .data) ∧
    cfg.high < (4 : StationNo) ∧
    State.hears (listening (part .withdrawn .closed)) cfg (levels 2 .data) .closed (body 2 .data) ∧
    State.hears (listening (part .withdrawn .idle)) cfg (levels 2 .data) .idle (body 2 .data) := by
  unfold State.hears
  decide +kernel

/-- The receiver with its own frame on the line. -/
theorem test_witness_own_mark :
    let s := sending .data 1 0
    let r := { s with rx := { s.rx with runLength := 1 } }
    r.rx.takeAll r.trk.walk ((levels 1 .data).drop 1) = some (.completed (body 1 .data)) ∧ r.rx.ownMark = true := by
  decide +kernel

theorem test_witness_sent_frame :
    let r : Receiver := { Receiver.fresh with prevRecessive := true }
    r.state = .waiting ∧ r.prevRecessive = true ∧ ([1] : List Byte).length = pointBytes (header 2 .data).kind (header 2 .data).widthCode ∧
      ([] : List Byte).length = pointBytes (header 2 .leave).kind (header 2 .leave).widthCode := by decide

/-- A frame of station 2 in its slot, ahead of the cursor, and behind it. -/
theorem test_witness_sorting :
    ∀ cursor ∈ [Cursor.slot 2, .beforeZero, .slot 3],
      let s := listening (active cursor)
      State.hears s cfg (levels 2 .data) (.opened cursor) (body 2 .data) ∧
        judge (body 2 .data) = .valid .data (header 2 .data) [1] ∧ (2 : StationNo) ≤ cfg.high := by
  unfold State.hears
  decide +kernel

/-- A first frame, a next one in sequence, a repeat in sequence and a repeat in the round. -/
theorem test_witness_peer_data :
    let u := listening (active (.slot 2))
    let s := listening (withPeer (peer 0 .present) (active (.slot 2)))
    let same := listening (withPeer { peer 0 .present with lastSeq := some 9 } (active (.slot 2)))
    let heard := listening (withPeer { peer 0 .present with heard := true } (active (.slot 2)))
    (∀ x ∈ [u, s, same, heard], State.hears x cfg (levels 2 .data) (.opened (.slot 2)) (body 2 .data)) ∧
      judge (body 2 .data) = .valid .data (header 2 .data) [1] ∧ (2 : StationNo) ≤ cfg.high ∧ (2 : StationNo) ≠ cfg.own ∧
      (u.member 2).heard = false ∧ (u.member 2).onLine = false ∧ (s.member 2).heard = false ∧
      (s.member 2).lastSeq ≠ some 9 ∧ (same.member 2).onLine = true ∧ (same.member 2).lastSeq = some 9 ∧
      (heard.member 2).heard = true := by
  unfold State.hears
  decide +kernel

theorem test_witness_refresh_places :
    AllocationLaw (active (.slot 2)) ∧ ((active (.slot 2)).member 2).placement = .none ∧
      ((active (.slot 2)).member 2).presence = .unseen := by
  refine ⟨⟨trivial, by decide, List.nodup_nil, fun e h => (List.not_mem_nil h).elim, ?_⟩, by decide +kernel, by decide +kernel⟩
  intro c h
  cases h
  decide +kernel

/-- Eight members of 64 points fill the pool; station 2 is not among them. -/
def fullPool : State :=
  let s := active (.slot 2)
  { s with
    img := { s.img with
      table := (List.range 8).map fun i => { station := Fin.ofNat 32 (i + 4), offset := 64 * i, length := 64 }
      roster := Vector.ofFn fun n => if 4 ≤ n.val ∧ n.val < 12 then { peer 0 .present with width := some 8 } else Member.unseen } }

theorem test_witness_refresh_without_room :
    AllocationLaw fullPool ∧ freePointer fullPool.img.table = 512 ∧ (fullPool.member 2).placement = .none ∧
      (fullPool.member 2).presence = .unseen := by
  refine ⟨⟨?_, by decide +kernel, by decide +kernel, ?_, ?_⟩, by decide +kernel, by decide +kernel, by decide +kernel⟩
  · simp [fullPool, contiguousFrom, List.range_succ]
  · have h : ∀ e ∈ fullPool.img.table, (fullPool.member e.station).presence ≠ .unseen ∧ e.station ≠ cfg.own := by
      decide +kernel
    exact fun e he => ⟨(h e he).1, fun c hc => by cases hc; exact (h e he).2⟩
  · intro c h
    cases h
    decide +kernel

/-- A first frame, a wider frame of a FULL member, and a member that found no room. -/
theorem test_witness_refresh_posts :
    let s := withPeer (peer 0 .present) (active (.slot 2))
    let wide := { header 2 .data with widthCode := 7 }
    let none' := fullPool.setMember 2 { peer 0 .present with placement := .unplaced }
    (entryOf fullPool.img.table 2 = none ∧ 512 - freePointer fullPool.img.table < 8 * wide.width) ∧
      ((s.member 2).placement = .full ∧ entryOf s.img.table 2 = some { station := 2, offset := 0, length := 8 } ∧
        8 < 8 * wide.width) ∧
      (none'.member 2).placement ≠ .none ∧ entryOf none'.img.table 2 = none := by decide +kernel

theorem test_witness_peer_leave :
    let u := listening (active (.slot 2))
    let s := listening (withPeer (peer 0 .present) (active (.slot 2)))
    (∀ x ∈ [u, s], State.hears x cfg (levels 2 .leave) (.opened (.slot 2)) (body 2 .leave)) ∧
      judge (body 2 .leave) = .valid .leave (header 2 .leave) [] ∧ (2 : StationNo) ≤ cfg.high ∧ (2 : StationNo) ≠ cfg.own ∧
      (u.member 2).presence = .unseen ∧ (s.member 2).presence = .present := by
  unfold State.hears
  decide +kernel

theorem test_witness_sighting :
    (∀ st ∈ [Station.active, .lineFault .tx],
      State.hears (listening (part st (.opened (.slot 1)))) cfg (levels 1 .data) (.opened (.slot 1)) (body 1 .data) ∧
      State.hears (listening (part st (.opened (.slot 1)))) cfg (levels 1 .leave) (.opened (.slot 1)) (body 1 .leave)) ∧
      judge (body 1 .data) = .valid .data (header 1 .data) [1] ∧ judge (body 1 .leave) = .valid .leave (header 1 .leave) [] ∧
      (header 1 .data).station = cfg.own ∧ cfg.own ≤ cfg.high := by
  unfold State.hears
  decide +kernel

theorem test_witness_line_fault :
    let s := part .active .closed
    let c := part (.lineFault .stuck) .idle
    let held := { c with ctl := { c.ctl with txHeld := true } }
    s.ldr.config = some cfg ∧ s.ctl.station.receives = true ∧ c.ldr.config = some cfg ∧ c.ctl.station = .lineFault .stuck ∧
      c.ctl.txHeld = false ∧ held.ctl.station = .lineFault .stuck ∧ held.ctl.txHeld = true := by decide +kernel

theorem test_witness_tick :
    let s := active .beforeZero
    let inputs : Vector InputState 16 := Vector.replicate 16 { accepted := false, count := 0 }
    s.ldr.config = some cfg ∧ s.inp = some inputs ∧ s.img.own = some 4 ∧
      (∀ j : Fin 16, (inputs.get j).count < 2 ^ (cfg.settle.get (groupOf j)).val) ∧
      (inputs.get 0).count + 1 = 2 ^ (cfg.settle.get (groupOf 0)).val ∧ (inputs.get 0).count = 0 ∧
      (1 : BitVec 16).getLsbD 0 ≠ (inputs.get 0).accepted ∧
      ([] : List (BitVec 16)).length < 2 ^ (cfg.settle.get (groupOf 0)).val ∧
      [(1 : BitVec 16)].length = 2 ^ (cfg.settle.get (groupOf 0)).val := by decide +kernel

/-- With room for one more and with none. -/
theorem test_witness_queue_room :
    let s := active .beforeZero
    let q (n : Nat) := { s with tap := { s.tap with queue := List.replicate n (loadingEvent 0) } }
    cfg.mask.getLsbD EventKind.state.bit = true ∧ (q 31).tap.queue.length < 32 ∧ 32 ≤ (q 32).tap.queue.length ∧
      (q 32).ldr.config = some cfg ∧ ({ cfg with mask := 0 }).mask.getLsbD EventKind.state.bit = false := by decide +kernel

theorem test_witness_chip_select :
    let s := { active .beforeZero with tapSelectLow := false }
    s.power = .running ∧ s.tapSelectLow = false ∧ s.tap.trans = .idle ∧ State.reset.power ≠ .running ∧
      (open' s).tapSelectLow = true := by decide

theorem test_witness_tap_bytes :
    (Instr.takeEvents 32 .complete).wf = true ∧ encodeTap (.takeEvents 32 .complete) = some [0x06, 0x20] ∧
      tapPartOf (.takeEvents 32 .complete) = some .complete ∧ (Instr.malformed { received := [0x21] }).wf = true ∧
      encodeTap (.malformed { received := [0x21] }) = some [0x21] ∧ tapPartOf (.malformed { received := [0x21] }) = none := by
  decide

/-- With nothing received, with 7, 8 and 23 of the 24 bits of READ ROSTER, and a short LOAD CONFIG. -/
theorem test_witness_underway :
    let bits := bitsOfBytes [0x03, 0x00, 0x1F]
    (∀ n ∈ [0, 7, 8, 23], (after' (bits.take n) (active .beforeZero)).underway bits) ∧
      (after' (bitsOfBytes [0x21]) (active .beforeZero)).underway (bitsOfBytes [0x21] ++ [true]) ∧
      (open' (active .beforeZero)).underway (bitsOfBytes (0x20 :: List.replicate 511 0)) ∧
      tapArguments (0x03 : Byte).toNat = some ([0x00, 0x1F] : List Byte).length ∧ tapArguments (0x21 : Byte).toNat = none ∧
      (List.replicate 512 (0 : Byte)).length = 512 ∧ (List.replicate 511 (0 : Byte)).length < 512 ∧
      tapComplete [0x03, 0x00, 0x1F] = true ∧ tapComplete [0x03, 0x00] = false ∧ tapComplete [0x21] = false ∧
      tapComplete (bytesOfBits (bitsOfBytes [0x21] ++ [true])) = false ∧
      tapComplete (bytesOfBits (bitsOfBytes [0x03] ++ List.replicate 7 true)) = false ∧ tapComplete (bytesOfBits []) = false := by
  unfold State.underway
  decide +kernel

/-- A published record at the ends of its widths, the own number, and stations and ranges at and beyond 31. -/
theorem test_witness_responses :
    let record : Member := { peer 255 .absent with reason := some .left, width := some 8, missed := 255, repeats := 255, tagChanges := 255 }
    let s := withPeer record (active .beforeZero)
    let c : Copy := { Copy.empty with roster := s.img.roster, table := s.img.table, pool := s.img.pool, own := s.img.own }
    let u := { s with tap := { s.tap with published := c } }
    QueueLaw u ∧ u.ctl.restarts ≤ 255 ∧ (∀ i < 21, u.cnt.toList.getD i 0 ≤ 65535) ∧ c.table.length ≤ 32 ∧
      freePointer c.table ≤ 512 ∧ (c.roster.get 2).age ≤ 255 ∧ (c.roster.get 2).width.getD 0 ≤ 8 ∧
      (c.roster.get 2).missed ≤ 255 ∧ (c.roster.get 2).repeats ≤ 255 ∧ (c.roster.get 2).tagChanges ≤ 255 ∧
      entryOf c.table 2 = some { station := 2, offset := 0, length := 8 } ∧ entryOf c.table 3 = none ∧
      (0 : Byte).toNat ≤ (31 : Byte).toNat ∧ (31 : Byte).toNat ≤ 31 ∧ ¬ (32 : Byte).toNat ≤ 31 ∧ 32 ≤ (32 : Byte).toNat ∧
      u.ldr.config = some cfg ∧ (2 : StationNo) ≠ cfg.own ∧ cfg.width ≤ 8 ∧ (1 : Byte).toNat = cfg.own.val ∧ c.own = some 4 := by
  unfold QueueLaw
  decide +kernel

/-- Every command of the tap can be held, the takes and reads at the ends of their ranges. -/
theorem test_witness_held_commands :
    ∀ p ∈ [((0x01 : Byte), ([] : List Byte)), (0x02, []), (0x03, [0, 31]), (0x03, [31, 31]), (0x03, [0, 32]), (0x04, [31]),
        (0x04, [32]), (0x05, []), (0x06, [0]), (0x06, [1]), (0x06, [32]), (0x06, [33]), (0x10, []), (0x11, []), (0x12, []),
        (0x13, []), (0x14, []), (0x20, List.replicate 512 0)],
      (holding p.1 p.2 [] 0 (active .beforeZero)).holds p.1 p.2 { response := [], take := 0 } :=
  fun _ _ => rfl

theorem test_witness_station_commands :
    let a := active .beforeZero
    let p := { a with ctl := { a.ctl with withdrawalPending := true } }
    a.ctl.station = .active ∧ a.ctl.withdrawalPending = false ∧ p.ctl.station = .active ∧ p.ctl.withdrawalPending = true ∧
      (part .withdrawn .idle).ctl.station = .withdrawn ∧ (part .withdrawn .idle).ldr.config = some cfg ∧
      (part .duplicate .idle).ctl.station ≠ .withdrawn ∧ a.ctl.station.unconfigured = false ∧
      State.reset.ctl.station.unconfigured = true := by decide +kernel

theorem test_witness_load_config :
    let w := { State.reset with power := .running, ldr := { Loader.reset with phase := .waiting } }
    let a := active .beforeZero
    let full := { a with tap := { a.tap with queue := List.replicate 32 (loadingEvent 0) } }
    w.ctl.station = .loading ∧ w.ldr.phase = .waiting ∧ State.reset.ldr.phase ≠ .waiting ∧ a.ctl.station ≠ .loading ∧
      a.tap.queue.length < 32 ∧ 32 ≤ full.tap.queue.length := by decide +kernel

theorem test_witness_queue_and_count_laws :
    let s := active (.slot 2)
    QueueLaw s ∧ CountLaw s ∧ ∃ t, step s = .next t := by
  refine ⟨⟨by decide, by decide⟩, ⟨by decide +kernel, by decide, by decide +kernel⟩, ⟨_, rfl⟩⟩

theorem test_witness_term_and_output_laws :
    let s := { active (.slot 2) with drv := { held := some 1, levels := 3 } }
    TermLaw s ∧ OutputLaw s := by
  refine ⟨⟨rfl, fun j => ?_⟩, fun h => ?_, fun _ c h => ?_⟩
  · fin_cases j <;> trivial
  · cases h
  · cases h
    decide +kernel

/-- One tick short of an acceptance, and with one due. -/
theorem test_witness_input_laws :
    let s := active (.slot 2)
    let due := after (.tick { raw := 1 }) s
    PresenceLaw s ∧ CandidateLaw s ∧ SettledLaw s ∧ CandidateLaw due ∧
      (due.inp.map fun f => (f.get 0).count) = some (2 ^ (cfg.settle.get (groupOf 0)).val) := by
  have below : ∀ j : Fin 16,
      ((Vector.replicate 16 { accepted := false, count := 0 } : Vector InputState 16).get j).count <
        2 ^ (cfg.settle.get (groupOf j)).val := by decide +kernel
  refine ⟨by unfold PresenceLaw; decide, ?_, ?_, ?_, by decide +kernel⟩
  · intro c f hc hf j
    cases hc
    cases hf
    exact Nat.le_of_lt (below j)
  · intro c f hc hf j
    cases hc
    cases hf
    exact below j
  · intro c f hc hf j
    cases hc
    cases hf
    revert j
    decide +kernel

theorem test_witness_station_laws :
    let s := active (.slot 3)
    StationLaw s ∧ ConfigurationLaw s ∧ LossLaw s ∧ ∃ t, step s = .next t := by
  refine ⟨⟨rfl, ?_, ?_, ?_, ?_, ?_, ?_, fun _ => ⟨rfl, rfl⟩, ?_⟩, ?_, ⟨by decide, ?_, ?_, ?_, ?_, ?_⟩, ⟨_, rfl⟩⟩
  · exact fun h => absurd rfl h
  · exact fun h => nomatch h
  · exact fun h => nomatch h
  · exact fun _ => rfl
  · exact fun h => nomatch h
  · intro c n h w
    cases h
    cases w
    decide
  · exact fun h => absurd rfl h
  · intro c h
    cases h
    exact ⟨cfg_in_range, fun _ h => nomatch h⟩
  · exact fun h => nomatch h
  · exact fun _ h => nomatch h
  · exact fun _ => by decide
  · exact fun h => nomatch h
  · exact fun h => nomatch h

theorem test_witness_step_of_open_transaction :
    let s := open' (active (.slot 2))
    s.tap.trans ≠ .idle ∧ step s = .next s.clock ∧ s.clock.tap.trans ≠ .idle ∧ s.trk.walk = .opened (.slot 2) ∧
      s.clock.trk.walk = .opened (.slot 2) :=
  ⟨by decide, rfl, by decide +kernel, rfl, by decide +kernel⟩

theorem test_witness_entering_active :
    let s := { part (.listen 1) (.opened (.slot 3)) with pending := [.slotBoundary] }
    let t := after .slotBoundary (part (.listen 1) (.opened (.slot 3)))
    step s = .next t ∧ s.ldr.config = some cfg ∧ s.ctl.station ≠ .active ∧ t.ctl.station = .active :=
  ⟨rfl, rfl, by decide, by decide +kernel⟩

end Sys2Proof.Tests
end

section
/-! PROOFS of the statements on the contact image, the loads, the tick and the close. -/

-- One proof after another: each thread that elaborates a proof reserves a stack of its own, and a check that limits memory can run out
-- of room for them.
set_option Elab.async false

namespace Sys2Proof.Machine

/-! ### Counters -/

/-- Every station counter is 16 bits wide (R64, R87, R102). -/
def Counters.Wide (c : Counters) : Prop := ∀ n ∈ c.toList, n ≤ 65535

/-- Counters that were bumped, each at most once, are 16 bits wide if they were. -/
theorem Counters.Wide.of_bumped {c d : Counters} (h : c.Wide)
    (hd : List.Forall₂ (fun m n => n = m ∨ n = bump16 m) c.toList d.toList) : d.Wide := by
  unfold Counters.Wide at *
  generalize c.toList = ms at h hd
  generalize d.toList = ns at hd
  induction hd with
  | nil => exact h
  | cons hmn _ ih =>
    rw [List.forall_mem_cons] at h ⊢
    refine ⟨?_, ih h.2⟩
    rcases hmn with rfl | rfl
    · exact h.1
    · exact bump16_le _

theorem Counters.zero_wide : Counters.zero.Wide := by
  simp [Counters.Wide, Counters.zero, Counters.toList]

/-! ### Steps that no law but those of queue and counters can see -/

/-- From `s` to `t` nothing moves that the laws of roster, terms, outputs and inputs read; queue and counters stay in their bounds. -/
structure Quiet (s t : State) : Prop where
  config : t.ldr.config = s.ldr.config := by rfl
  idle : s.ldr.phase = .idle → t.ldr.phase = .idle := by exact id
  station : t.ctl.station = s.ctl.station := by rfl
  restarts : t.ctl.restarts = s.ctl.restarts := by rfl
  roster : t.img.roster = s.img.roster := by rfl
  table : t.img.table = s.img.table := by rfl
  own : t.img.own = s.img.own := by rfl
  terms : t.eng.terms = s.eng.terms := by rfl
  inp : t.inp = s.inp := by rfl
  drv : t.drv = s.drv := by rfl
  queue : QueueLaw s → QueueLaw t := by exact id
  wide : s.cnt.Wide → t.cnt.Wide := by exact id

theorem Quiet.trans {s t u : State} (h : Quiet s t) (h' : Quiet t u) : Quiet s u where
  config := h'.config.trans h.config
  idle := h'.idle ∘ h.idle
  station := h'.station.trans h.station
  restarts := h'.restarts.trans h.restarts
  roster := h'.roster.trans h.roster
  table := h'.table.trans h.table
  own := h'.own.trans h.own
  terms := h'.terms.trans h.terms
  inp := h'.inp.trans h.inp
  drv := h'.drv.trans h.drv
  queue := h'.queue ∘ h.queue
  wide := h'.wide ∘ h.wide

/-- From `s` the part enters LOADING, or the reset condition, as `t`: nothing is left of image, terms, inputs and outputs (R1, R27, R104,
R135). -/
structure EntersLoading (s t : State) : Prop where
  config : t.ldr.config = none := by rfl
  station : t.ctl.station = .loading := by rfl
  img : t.img = Image.empty := by rfl
  eng : t.eng = TermEngine.reset := by rfl
  inp : t.inp = none := by rfl
  drv : t.drv = OutputDriver.reset := by rfl
  restarts : s.ctl.restarts ≤ 255 → t.ctl.restarts ≤ 255
  queue : QueueLaw s → QueueLaw t
  wide : s.cnt.Wide → t.cnt.Wide

/-- What the commands do to the parts of the state that the laws read, operation by operation. A tick's sampling stands apart
(`State.sampled`). -/
inductive Effect : State → State → Prop
  | quiet {s t : State} (h : Quiet s t) : Effect s t
  | enters (st : Station) (detail : Nat) (s : State) (h : st.unconfigured = false) : Effect s (s.enter st detail)
  | loading {s t : State} (h : EntersLoading s t) : Effect s t
  | configGood (raw : BitVec 16) (s : State) (hp : s.ldr.phase = .checking)
      (hf : firstFailure s.ldr.buffer = none) : Effect s (s.configGood raw)
  | configBad (reason : CheckReason) (s : State) (hp : s.ldr.phase = .checking) : Effect s (s.configBad reason)
  | accepts (cfg : Configuration) (inputs : Vector InputState 16) (s : State) (hc : s.ldr.config = some cfg)
      (hi : s.inp = some inputs) : Effect s (s.acceptInputs cfg inputs)
  | closes (cfg : Configuration) (cut : Option Cursor) (s : State) (hc : s.ldr.config = some cfg) :
      Effect s (s.closeWork cfg cut)
  | repeats (n : StationNo) (seq : BitVec 6) (s : State)
      (h : (s.member n).heard = true ∨ (s.member n).seqDiff seq = some 0) : Effect s (s.countRepeat n)
  | refreshes (cfg : Configuration) (h : Header) (points : List Byte) (s : State) (hc : s.ldr.config = some cfg)
      (hn : h.station ≠ cfg.own) : Effect s (s.refreshRecord h points)
  | leaves (cfg : Configuration) (n : StationNo) (s : State) (hc : s.ldr.config = some cfg) (hn : n ≠ cfg.own) :
      Effect s (s.peerLeave n)
  | sights (cfg : Configuration) (kind : FrameKind) (cadence : Cadence) (s : State) (hc : s.ldr.config = some cfg) :
      Effect s (s.setMember cfg.own ((s.member cfg.own).sighted kind cadence))
  | clears (s : State) : Effect s s.clearEffect

/-- Effects one after another. -/
abbrev Effects : State → State → Prop := Relation.ReflTransGen Effect

/-- What a tick does after the acceptances of an earlier one: every input is sampled (R127). -/
def State.sampled (sample : Sample) (s : State) : State :=
  { s with inputPins := sample.raw, inp := s.inp.map (sampleAll sample.raw), within := sample.within }

theorem Effects.quiet {s t : State} (h : Quiet s t) : Effects s t := .single (.quiet h)

theorem Effects.of_eq {s t : State} (h : t = s) : Effects s t := h ▸ .refl

/-- A quiet step before the effects of an operation. -/
theorem Effects.after_quiet {s t u : State} (h : Quiet s t) (h' : Effects t u) : Effects s u := .head (.quiet h) h'

/-- A quiet step after the effects of an operation. -/
theorem Effects.then_quiet {s t u : State} (h : Effects s t) (h' : Quiet t u) : Effects s u := .tail h (.quiet h')

/-! ### Counting -/

/-- The counters bumped and nothing else is a quiet step. -/
theorem Quiet.count {f : Counters → Counters} (s : State)
    (hf : List.Forall₂ (fun m n => n = m ∨ n = bump16 m) s.cnt.toList (f s.cnt).toList) : Quiet s (s.count f) :=
  { wide := fun h => h.of_bumped hf }

theorem State.passedUnopened_quiet (cfg : Configuration) (s : State) : Quiet s (s.passedUnopened cfg) := by
  unfold State.passedUnopened
  split
  · exact Quiet.count s (by simp [Counters.bumpMissedTurns, Counters.toList])
  · exact {}

theorem State.slip_quiet (cfg : Configuration) (cursor : Cursor) (n : StationNo) (s : State) :
    Quiet s (s.slip cfg cursor n) := by
  have hb : Quiet s (State.count Counters.bumpSlips { s with trk := s.trk.slipTo n }) :=
    { wide := fun h => h.of_bumped (by simp [Counters.bumpSlips, Counters.toList]) }
  simp only [State.slip]
  split
  · exact hb.trans (State.passedUnopened_quiet cfg _)
  · exact hb

/-! ### A change of station state -/

theorem QueueLaw.of_posts {s t : State} (h : Posts s.tap t.tap) (hs : QueueLaw s) : QueueLaw t :=
  ⟨h.queue_room hs.1, h.lostEvents_le hs.2⟩

theorem State.enterListen_effects (detail : Nat) (s : State) : Effects s (s.enterListen detail) :=
  .after_quiet (t := s.clearLosses) {} (.single (.enters _ _ _ rfl))

theorem State.enterTxFault_effects (s : State) : Effects s s.enterTxFault :=
  .after_quiet
    (t := { s with
      ctl := { s.ctl with txHeld := true }, trk := s.trk.stopTimer, line := { s.line with mark := none } })
    {} (.single (.enters _ _ _ rfl))

theorem State.enterStuck_effects (s : State) : Effects s s.enterStuck :=
  .after_quiet
    (t := { s with
      line := { s.line with mark := none }
      trk := { s.trk.stopTimer with walk := .idle, inMark := false }
      rx := Receiver.fresh
      tx := s.tx.settle })
    {} (.single (.enters _ _ _ rfl))

theorem State.attemptLost_effects (s : State) : Effects s s.attemptLost := by
  simp only [State.attemptLost]
  generalize min Config.lossLimit (s.tx.losses + 1) = losses
  refine .after_quiet
    (t := State.count Counters.bumpAttemptsLost { s with tx := { s.tx.settle with losses := losses } })
    { wide := fun h => h.of_bumped (by simp [Counters.bumpAttemptsLost, Counters.toList]) } ?_
  repeat' split
  · exact State.enterTxFault_effects _
  · exact .single (.enters _ _ _ rfl)
  · exact .refl

theorem State.attemptWasSent_effects (s : State) : Effects s s.attemptWasSent := by
  simp only [State.attemptWasSent]
  refine .after_quiet
    (t := State.count Counters.bumpFramesSent { s with tx := { s.tx.settle with losses := 0 } })
    { wide := fun h => h.of_bumped (by simp [Counters.bumpFramesSent, Counters.toList]) } ?_
  split
  · exact .single (.enters _ _ _ rfl)
  · exact .refl

theorem State.settleTakenOver_effects (own : Bool) (s : State) : Effects s (s.settleTakenOver own) := by
  unfold State.settleTakenOver
  repeat' split
  · exact .quiet {}
  · exact State.attemptLost_effects s
  · exact .refl

theorem State.loseUnderMark_effects (s : State) : Effects s s.loseUnderMark := by
  unfold State.loseUnderMark
  split
  · exact State.attemptLost_effects s
  · exact .refl

theorem State.noteSighting_effects (s : State) : Effects s s.noteSighting := by
  unfold State.noteSighting
  split
  · exact .single (.enters _ _ _ rfl)
  · exact .single (.enters _ _ _ rfl)
  · exact .single (.enters _ _ _ rfl)
  all_goals exact .refl

/-! ### Frames -/

theorem State.peerData_effects {cfg : Configuration} (h : Header) (points : List Byte) (s : State)
    (hc : s.ldr.config = some cfg) (hn : h.station ≠ cfg.own) : Effects s (s.peerData h points) := by
  rcases s.peerData_cases h points with ⟨hr, he⟩ | ⟨_, _, he⟩ <;> rw [he]
  · exact .single (.repeats _ h.seq _ hr)
  · exact .single (.refreshes cfg _ _ _ hc hn)

theorem State.handOn_effects {cfg : Configuration} (kind : FrameKind) (h : Header) (points : List Byte) (s : State)
    (hc : s.ldr.config = some cfg) : Effects s (s.handOn cfg kind h points) := by
  unfold State.handOn
  split
  · exact .head (.sights cfg kind h.cadence s hc) (State.noteSighting_effects _)
  · rename_i hn
    cases kind with
    | data => exact State.peerData_effects h points s hc hn
    | leave => exact .single (.leaves cfg _ _ hc hn)

theorem State.sortFrame_effects {cfg : Configuration} (start : Walk) (kind : FrameKind) (h : Header)
    (points : List Byte) (s : State) (hc : s.ldr.config = some cfg) :
    Effects s (s.sortFrame cfg start kind h points) := by
  unfold State.sortFrame
  split
  · exact .refl
  · exact .quiet (Quiet.count s (by simp [Counters.bumpAfterClose, Counters.toList]))
  · split
    · exact .quiet (Quiet.count s (by simp [Counters.bumpBeyondWalk, Counters.toList]))
    split
    · exact State.handOn_effects _ _ _ _ hc
    split
    · exact .after_quiet (State.slip_quiet ..) (State.handOn_effects _ _ _ _ (by simpa using hc))
    · exact .after_quiet (Quiet.count s (by simp [Counters.bumpOutOfSlot, Counters.toList]))
        (State.handOn_effects _ _ _ _ hc)

theorem State.countAndSort_effects {cfg : Configuration} (start : Walk) (v : Verdict) (s : State)
    (hc : s.ldr.config = some cfg) : Effects s (s.countAndSort cfg start v) := by
  unfold State.countAndSort
  split
  · cases v with
    | check => exact .quiet (Quiet.count s (by simp [Counters.bumpBadCheck, Counters.toList]))
    | header => exact .quiet (Quiet.count s (by simp [Counters.bumpBadHeader, Counters.toList]))
    | valid kind h points =>
      exact .after_quiet (Quiet.count s (by simp [Counters.bumpGood, Counters.toList]))
        (State.sortFrame_effects _ _ _ _ _ hc)
  · exact .refl

theorem State.foreignFrame_effects {cfg : Configuration} (start : Walk) (body : List Byte) (lossFirst : Bool)
    (s : State) (hc : s.ldr.config = some cfg) : Effects s (s.foreignFrame cfg start body lossFirst) := by
  simp only [State.foreignFrame]
  split
  · exact (State.settleTakenOver_effects _ _).trans (State.countAndSort_effects _ _ _ (by simpa using hc))
  · exact (State.countAndSort_effects _ _ _ hc).trans (State.settleTakenOver_effects _ _)

/-! ### The round -/

theorem State.sawRecessive_quiet (s : State) : Quiet s s.sawRecessive := by
  unfold State.sawRecessive
  split <;> exact {}

theorem State.openOwnSlot_quiet (cfg : Configuration) (s : State) : Quiet s (s.openOwnSlot cfg) := by
  unfold State.openOwnSlot
  repeat' split
  all_goals exact {}

theorem State.closeNormal_effects {cfg : Configuration} (s : State) (hc : s.ldr.config = some cfg) :
    Effects s (s.closeNormal cfg) :=
  .after_quiet (t := State.count Counters.bumpCloses { s with trk := s.trk.closeWalk })
    { wide := fun h => h.of_bumped (by simp [Counters.bumpCloses, Counters.toList]) }
    (.single (.closes cfg none _ hc))

theorem State.closeCut_effects {cfg : Configuration} (cursor : Cursor) (s : State) (hc : s.ldr.config = some cfg) :
    Effects s (s.closeCut cfg cursor) := by
  simp only [State.closeCut]
  have hp : Quiet s (if cursor.below cfg.own then s.passedUnopened cfg else s) := by
    split
    · exact State.passedUnopened_quiet cfg s
    · exact {}
  generalize (if cursor.below cfg.own then s.passedUnopened cfg else s) = u at hp
  refine .after_quiet hp (.after_quiet
    (t := State.count (fun c => c.bumpCloses.bumpCutCloses) { u with trk := u.trk.closeWalk })
    { wide := fun h => h.of_bumped
        (by simp [Counters.bumpCloses, Counters.bumpCutCloses, Counters.toList]) } ?_)
  exact .single (.closes cfg (some cursor) _ (hp.config.trans hc))

theorem State.cutIfOpen_effects {cfg : Configuration} (s : State) (hc : s.ldr.config = some cfg) :
    Effects s (s.cutIfOpen cfg) := by
  unfold State.cutIfOpen
  split
  · exact State.closeCut_effects _ s hc
  all_goals exact .refl

theorem State.boundary_effects {cfg : Configuration} (cursor : Cursor) (s : State) (hc : s.ldr.config = some cfg) :
    Effects s (s.boundary cfg cursor) := by
  simp only [State.boundary]
  split
  · exact State.closeNormal_effects s hc
  split
  · exact .after_quiet (t := { s with trk := { s.trk with walk := _ } }) {} (.quiet (State.openOwnSlot_quiet ..))
  · exact .quiet {}

theorem State.foreignFrom_quiet (bit : Nat) (s : State) : Quiet s (s.foreignFrom bit) := by
  unfold State.foreignFrom
  split <;> exact {}

/-! ### The tap -/

theorem State.transact_quiet (o : Opened) (clocks : Nat) (s : State) : Quiet s (s.transact o clocks) := {}

theorem State.selectHigh_quiet (s : State) : Quiet s s.selectHigh := {}

theorem State.result_quiet (r : TapResult) (s : State) : Quiet s (s.result r) := {}

theorem State.endTransaction_quiet (s : State) : Quiet s s.endTransaction := by
  rw [State.endTransaction_eq]
  exact {}

theorem State.arrive_quiet (bits : List Level) (latch : Option Latch) (clocks : Nat) (s : State) :
    Quiet s (s.arrive bits latch clocks) := by
  rcases s.arrive_cases bits latch clocks with h | ⟨_, o, h⟩ <;> rw [h]
  · exact {}
  · exact s.transact_quiet _ _

theorem State.riseMalformed_quiet (bits : List Level) (s : State) : Quiet s (s.riseMalformed bits) := by
  rcases s.riseMalformed_cases bits with h | h | ⟨_, h⟩ <;> rw [h]
  · exact {}
  · exact s.selectHigh_quiet
  · exact (s.result_quiet _).trans (State.endTransaction_quiet _)

/-- A tap command does quiet things, and at the rising edge its effect (R156). -/
theorem State.tapCommand_effects {code : Nat} {args : List Byte} {part : TapPart} {response : State → List Byte}
    {take : State → Nat} {effect : Latch → State → State} (s : State) (he : ∀ l u, Effects u (effect l u)) :
    Effects s (s.tapCommand code args part response take effect) := by
  rcases s.tapCommand_cases code args part response take effect with
    h | h | ⟨o, clocks, _, h⟩ | ⟨l, o, clocks, _, h⟩
  · exact .of_eq h
  · exact h ▸ .quiet s.selectHigh_quiet
  · exact h ▸ .quiet (s.transact_quiet _ _)
  · exact h ▸ .after_quiet (s.transact_quiet o clocks) ((he l _).then_quiet (State.endTransaction_quiet _))

theorem readEffect_effects (accepted : Bool) (l : Latch) (s : State) : Effects s (readEffect accepted l s) :=
  .quiet (s.result_quiet _)

theorem takeEffect_effects (accepted : Bool) (l : Latch) (s : State) : Effects s (takeEffect accepted l s) := by
  unfold takeEffect
  split
  · refine .quiet { queue := fun h => ⟨?_, h.2⟩ }
    exact (List.drop_sublist _ _).length_le.trans h.1
  · exact .quiet (s.result_quiet _)

theorem State.withdrawEffect_effects (s : State) : Effects s s.withdrawEffect := by
  rcases s.withdrawEffect_cases with ⟨_, _, h⟩ | h <;> rw [h] <;> exact .quiet {}

theorem State.rejoinEffect_effects (s : State) : Effects s s.rejoinEffect := by
  rcases s.rejoinEffect_cases with ⟨_, _, h⟩ | ⟨_, h⟩ | h <;> rw [h]
  · exact .quiet {}
  · exact (s.enterListen_effects _).then_quiet (State.result_quiet _ _)
  · exact .quiet {}

theorem State.repackEffect_effects (s : State) : Effects s s.repackEffect := by
  rcases s.repackEffect_cases with ⟨_, h⟩ | ⟨_, h⟩ <;> rw [h] <;> exact .quiet {}

/-! ### The entry to LOADING -/

/-- The STATE event of an entry to LOADING leaves the entry one (R106, R122). -/
theorem EntersLoading.postLoading {s t : State} (h : EntersLoading s t) (detail : Nat) :
    EntersLoading s (t.postLoading detail) where
  config := by simpa using h.config
  station := by simpa using h.station
  img := by simpa using h.img
  eng := by simpa using h.eng
  inp := by simpa using h.inp
  drv := by simpa using h.drv
  restarts := by simpa using h.restarts
  queue := fun hq => .of_posts (State.postLoading_posts detail t) (h.queue hq)
  wide := by simpa using h.wide

theorem QueueLaw.of_reset {s : State} (h : s.tap.queue = []) (h' : s.tap.lostEvents = 0) : QueueLaw s := by
  simp [QueueLaw, h, h']

theorem State.boot_effects (strap : Strap) (detail : Nat) (s : State) : Effects s (s.boot strap detail) := by
  refine .single (.loading (EntersLoading.postLoading ?_ detail))
  exact
    { config := Loader.begin_config _ _
      restarts := fun _ => Nat.zero_le _, queue := fun _ => .of_reset rfl rfl, wide := fun _ => Counters.zero_wide }

theorem State.restartEffect_effects (s : State) : Effects s s.restartEffect := by
  refine .single (.loading (EntersLoading.postLoading ?_ detailRestart))
  exact
    { config := Loader.begin_config _ _
      restarts := fun _ => add8_le _ _, queue := fun _ => .of_reset rfl rfl, wide := fun _ => Counters.zero_wide }

theorem State.loadEntry_effects (image : List Byte) (s : State) : Effects s (s.loadEntry image) := by
  refine .single (.loading (EntersLoading.postLoading ?_ detailLoadConfig))
  exact { restarts := id, queue := id, wide := id }

theorem State.loadEffect_effects (image : List Byte) (s : State) : Effects s (s.loadEffect image) := by
  rcases s.loadEffect_cases image with ⟨_, hw, h⟩ | ⟨_, _, h⟩ | ⟨_, h⟩ <;> rw [h]
  · exact .quiet { idle := fun hi => absurd (hw.symm.trans hi) (by decide) }
  · exact .quiet {}
  · exact s.loadEntry_effects image

/-! ### The commands -/

/-- Every command but TICK is a sequence of effects. -/
theorem exec_effects {c : Instr} {s t : State} (hc : ∀ sample, c ≠ .tick sample) (h : exec c s = .next t) :
    Effects s t := by
  cases c with
  | powerOn strap => cases h; exact s.boot_effects _ _
  | resetNLow =>
    cases h
    exact .single (.loading
      { restarts := fun _ => Nat.zero_le _, queue := fun _ => .of_reset rfl rfl
        wide := fun _ => Counters.zero_wide })
  | resetNRising strap =>
    simp only [exec, execResetNRising] at h
    split at h <;> cases h
    · exact s.boot_effects _ _
    · exact s.boot_effects _ _
    · exact .refl
  | readingComplete bytes =>
    simp only [exec, execReadingComplete] at h
    split at h <;> cases h
    · rename_i hr
      exact .quiet { idle := fun hi => absurd (hr.1.symm.trans hi) (by decide) }
    · exact .refl
  | checkingComplete raw =>
    simp only [exec, execCheckingComplete] at h
    split at h
    · rename_i hp
      split at h <;> cases h
      · exact .single (.configGood raw s hp ‹_›)
      · exact .single (.configBad _ s hp)
    all_goals cases h; exact .refl
  | roundTimerExpiry =>
    simp only [exec, execRoundTimerExpiry] at h
    split at h
    · split at h <;> cases h
      · exact .quiet { wide := fun h => h.of_bumped (by simp [Counters.bumpOverruns, Counters.toList]) }
      · exact .quiet {}
      · exact .quiet {}
    all_goals cases h; exact .refl
  | markBegin =>
    simp only [exec, execMarkBegin] at h
    split at h <;> cases h
    · exact .quiet { wide := fun h => h.of_bumped (by simp [Counters.bumpMarksSent, Counters.toList]) }
    · exact .refl
  | markFailed => cases h; exact .quiet {}
  | markRelease => cases h; exact .quiet {}
  | markRecognised lossFirst =>
    simp only [exec, execMarkRecognised] at h
    split at h
    · cases h; exact .refl
    · rename_i cfg hcfg
      split at h
      · have hq : Quiet s (State.restartTimer { s with rx := Receiver.idleAfter dominant }) := {}
        generalize State.restartTimer { s with rx := Receiver.idleAfter dominant } = u at hq h
        have hu : u.ldr.config = some cfg := hq.config.trans hcfg
        split at h <;> cases h
        · exact .after_quiet hq
            ((State.loseUnderMark_effects u).trans (State.cutIfOpen_effects _ (by simpa using hu)))
        · exact .after_quiet hq ((State.cutIfOpen_effects u hu).trans (State.loseUnderMark_effects _))
      · cases h; exact .refl
  | markEnd =>
    simp only [exec, execMarkEnd] at h
    split at h <;> cases h
    · exact .quiet {}
    · exact .refl
  | slotBoundary =>
    simp only [exec, execSlotBoundary] at h
    split at h <;> cases h
    · rename_i hcfg _
      exact .after_quiet s.sawRecessive_quiet (State.boundary_effects _ _ (by simpa using hcfg))
    · exact .quiet s.sawRecessive_quiet
    · exact .quiet s.sawRecessive_quiet
    · exact .refl
  | startBit taken =>
    simp only [exec, execStartBit] at h
    split at h
    · split at h <;> cases h
      · exact .quiet { wide := fun h => h.of_bumped (by simp [Counters.bumpCollisions, Counters.toList]) }
      · exact .quiet {}
    · cases h; exact .refl
  | collision bit =>
    simp only [exec, execCollision] at h
    split at h <;> cases h
    · exact .after_quiet (s.foreignFrom_quiet bit)
        (.quiet { wide := fun h => h.of_bumped (by simp [Counters.bumpCollisions, Counters.toList]) })
    · exact .refl
  | transceiverFault bit =>
    simp only [exec, execTransceiverFault] at h
    split at h <;> cases h
    · exact .after_quiet (s.foreignFrom_quiet bit) (State.attemptLost_effects _)
    · exact .refl
  | attemptSent =>
    simp only [exec, execAttemptSent] at h
    split at h <;> cases h
    · exact .after_quiet (t := { s with rx := Receiver.idleAfter dominant }) {} (State.attemptWasSent_effects _)
    · exact .refl
  | frameReceived levels lossFirst =>
    simp only [exec, execFrameReceived] at h
    split at h
    · cases h; exact .refl
    · rename_i hcfg
      split at h
      · split at h
        · split at h <;> cases h
          · exact .quiet {}
          · exact .after_quiet (t := { s with rx := Receiver.idleAfter dominant }) {}
              (State.foreignFrame_effects _ _ _ _ hcfg)
        all_goals cases h; exact .refl
      · cases h; exact .refl
  | badFrame levels =>
    simp only [exec, execBadFrame] at h
    split at h
    · cases h; exact .refl
    split at h
    · split at h
      · rename_i kind _
        cases h
        refine Relation.ReflTransGen.trans ?_ (State.settleTakenOver_effects _ _)
        split
        · refine Effects.quiet { wide := fun h => h.of_bumped ?_ }
          cases kind <;> simp [Counters.bumpBad, Counters.toList]
        · exact Effects.quiet {}
      all_goals cases h; exact .refl
    · cases h; exact .refl
  | stuck =>
    simp only [exec, execStuck] at h
    split at h <;> cases h
    · exact s.enterStuck_effects
    · exact .refl
  | lineClear =>
    simp only [exec, execLineClear] at h
    split at h
    · split at h <;> cases h
      · exact .after_quiet (t := { s with rx := Receiver.fresh }) {} (State.enterTxFault_effects _)
      · exact .after_quiet (t := { s with rx := Receiver.fresh, trk := s.trk.startTimer }) {}
          (State.enterListen_effects _ _)
    · cases h; exact .refl
  | tick sample => exact absurd rfl (hc sample)
  | inputAccepted =>
    simp only [exec, execInputAccepted] at h
    split at h <;> cases h
    · exact .single (.accepts _ _ _ ‹_› ‹_›)
    all_goals exact .refl
  | chipSelectFalling =>
    simp only [exec, execChipSelectFalling] at h
    split at h <;> cases h <;> exact .quiet {}
  | readStatus part => cases h; exact s.tapCommand_effects (readEffect_effects _)
  | readCounters part => cases h; exact s.tapCommand_effects (readEffect_effects _)
  | readRoster first last part => cases h; exact s.tapCommand_effects (readEffect_effects _)
  | readPoints station part => cases h; exact s.tapCommand_effects (readEffect_effects _)
  | readTerms part => cases h; exact s.tapCommand_effects (readEffect_effects _)
  | takeEvents n part => cases h; exact s.tapCommand_effects (takeEffect_effects _)
  | withdraw part => cases h; exact s.tapCommand_effects fun _ => State.withdrawEffect_effects
  | rejoin part => cases h; exact s.tapCommand_effects fun _ => State.rejoinEffect_effects
  | repack part => cases h; exact s.tapCommand_effects fun _ => State.repackEffect_effects
  | clearCounters part => cases h; exact s.tapCommand_effects fun _ u => .single (.clears u)
  | restart part => cases h; exact s.tapCommand_effects fun _ => State.restartEffect_effects
  | loadConfig image part =>
    simp only [exec, execLoadConfig] at h
    split at h
    · cases h; exact s.tapCommand_effects fun _ => State.loadEffect_effects _
    · split at h <;> cases h
      · exact .quiet (State.arrive_quiet ..)
      · exact .quiet (State.arrive_quiet ..)
      · exact .quiet (State.riseMalformed_quiet ..)
      · exact .quiet ((State.arrive_quiet ..).trans (State.riseMalformed_quiet ..))
  | malformed bits =>
    simp only [exec, execMalformed] at h
    repeat' split at h
    all_goals cases h
    · exact .refl
    · exact .quiet ((State.arrive_quiet ..).trans (State.riseMalformed_quiet ..))
    · exact .quiet (State.arrive_quiet ..)

/-- Time alone moves nothing that the laws read (log 2). -/
theorem State.clock_quiet (s : State) : Quiet s s.clock := by
  constructor <;> simp [QueueLaw]

@[simp] theorem State.acceptInputs_img (cfg : Configuration) (inputs : Vector InputState 16) (s : State) :
    (s.acceptInputs cfg inputs).img = (s.takeLevels cfg inputs).img := by
  simp [State.acceptInputs]

@[simp] theorem State.acceptInputs_inp (cfg : Configuration) (inputs : Vector InputState 16) (s : State) :
    (s.acceptInputs cfg inputs).inp = (s.takeLevels cfg inputs).inp := by
  simp [State.acceptInputs]

@[simp] theorem State.acceptInputs_within (cfg : Configuration) (inputs : Vector InputState 16) (s : State) :
    (s.acceptInputs cfg inputs).within = none := by
  simp [State.acceptInputs]

/-- INPUT_ACCEPTED leaves every candidate count below its settle count (R126, R127). -/
theorem State.acceptInputs_settled {cfg : Configuration} {inputs : Vector InputState 16} {s : State}
    (hc : s.ldr.config = some cfg) : SettledLaw (s.acceptInputs cfg inputs) := by
  intro cfg' after hc' ha j
  obtain rfl : cfg = cfg' := by simpa [hc] using hc'
  obtain rfl : (Vector.ofFn fun j => (inputs.get j).accept (cfg.settleCount j)) = after := by
    simpa [State.acceptInputs, State.takeLevels] using ha
  rw [Vector.get_ofFn, InputState.accept]
  split
  · exact Nat.two_pow_pos _
  · rename_i hd
    exact not_le.mp fun hle => hd (decide_eq_true hle)

/-- Every step is a sequence of effects; where a TICK is taken with a configuration held, the sampling follows them, every candidate
count below its settle count before it. -/
theorem step_effects {s t : State} (h : step s = .next t) :
    Effects s t ∨
      ∃ sample rest u, s.pending = .tick sample :: rest ∧ Effects s u ∧ SettledLaw u ∧ t = u.sampled sample := by
  unfold step at h
  split at h
  · cases h; exact .inl (.quiet s.clock_quiet)
  rename_i c rest hp
  by_cases hc : ∃ sample, c = .tick sample
  · obtain ⟨sample, rfl⟩ := hc
    simp only [exec, execTick] at h
    split at h <;> cases h
    · rename_i cfg inputs hcfg hinp
      refine .inr ⟨sample, rest, State.acceptInputs cfg inputs { s with pending := rest }, hp, ?_, ?_, rfl⟩
      · exact .after_quiet (t := { s with pending := rest }) {} (.single (.accepts _ _ _ hcfg hinp))
      · exact State.acceptInputs_settled hcfg
    · exact .inl (.quiet {})
    · exact .inl (.quiet {})
  · refine .inl (.after_quiet (t := { s with pending := rest }) {} (exec_effects ?_ h))
    exact fun sample e => hc ⟨sample, e⟩

/-- What every effect keeps, effects one after another keep. -/
theorem Effects.keep {P : State → Prop} (he : ∀ s t, Effect s t → P s → P t) {s t : State} (h : Effects s t)
    (hs : P s) : P t := by
  induction h with
  | refl => exact hs
  | tail _ he' ih => exact he _ _ he' ih

/-- What every effect keeps, and every sampling of inputs whose counts are below their settle counts, every step keeps. -/
theorem step_keeps {P : State → Prop} (he : ∀ s t, Effect s t → P s → P t)
    (hsample : ∀ sample s, SettledLaw s → P s → P (s.sampled sample)) {s t : State} (h : step s = .next t)
    (hs : P s) : P t := by
  rcases step_effects h with h | ⟨sample, _, u, _, hu, hl, rfl⟩
  · exact h.keep he hs
  · exact hsample _ _ hl (hu.keep he hs)

end Sys2Proof.Machine

namespace Sys2Proof.Machine

/-! ### The checks (R151) -/

/-- The image passes exactly where none of the thirteen checks fails (R151). -/
theorem firstFailure_eq_none_iff (img : List Byte) : firstFailure img = none ↔ ∀ r, imageFails img r = false := by
  have hall : ∀ r, r ∈ checkOrder := by
    intro r
    cases r <;> decide
  simp [firstFailure, hall]

theorem configurationOf_grace_of_pass {img : List Byte} (h : firstFailure img = none) :
    2 ≤ (configurationOf img).grace ∧ (configurationOf img).grace ≤ 8 := by
  have hg := (firstFailure_eq_none_iff img).mp h .grace
  simp only [imageFails, decide_eq_false_iff_not] at hg
  simp only [configurationOf]
  omega

/-! ### Entries (R11, R12) -/

@[simp] theorem freePointer_nil : freePointer [] = 0 := rfl

@[simp] theorem freePointer_cons (e : Entry) (es : List Entry) : freePointer (e :: es) = e.length + freePointer es := by
  simp [freePointer]

@[simp] theorem freePointer_append (es fs : List Entry) : freePointer (es ++ fs) = freePointer es + freePointer fs := by
  simp [freePointer]

@[simp] theorem freePointer_appendEntry (table : List Entry) (n : StationNo) (len : Nat) :
    freePointer (appendEntry table n len) = freePointer table + len := by
  unfold appendEntry
  split <;> simp_all

theorem contiguousFrom_append (es fs : List Entry) (start : Nat) :
    contiguousFrom start (es ++ fs) ↔ contiguousFrom start es ∧ contiguousFrom (start + freePointer es) fs := by
  induction es generalizing start with
  | nil => simp [contiguousFrom]
  | cons e es ih => simp [contiguousFrom, ih, and_assoc, Nat.add_assoc]

theorem contiguousFrom_appendEntry {table : List Entry} (h : contiguousFrom 0 table) (n : StationNo) {len : Nat}
    (hl : len ≤ 64) : contiguousFrom 0 (appendEntry table n len) := by
  unfold appendEntry
  split
  · exact h
  · rw [contiguousFrom_append]
    exact ⟨h, (Nat.zero_add _).symm, Nat.pos_of_ne_zero ‹_›, hl, trivial⟩

/-- The stations of a table with an entry appended: the new one last, if it gets points at all. -/
theorem map_station_appendEntry (table : List Entry) (n : StationNo) (len : Nat) :
    (appendEntry table n len).map (·.station) = table.map (·.station) ++ if len = 0 then [] else [n] := by
  unfold appendEntry
  split <;> simp

theorem entryOf_eq_none_iff (table : List Entry) (n : StationNo) :
    entryOf table n = none ↔ n ∉ table.map (·.station) := by
  simp [entryOf, List.find?_eq_none]

theorem mem_of_entryOf {table : List Entry} {n : StationNo} {e : Entry} (h : entryOf table n = some e) :
    e ∈ table ∧ e.station = n := by
  unfold entryOf at h
  exact ⟨List.mem_of_find?_eq_some h, by simpa using List.find?_some h⟩

/-- In a table that names no station twice, a member of the table is its station's entry. -/
theorem entryOf_of_mem {table : List Entry} (hn : (table.map (·.station)).Nodup) {e : Entry} (he : e ∈ table) :
    entryOf table e.station = some e := by
  induction table with
  | nil => cases he
  | cons f fs ih =>
    rw [List.map_cons, List.nodup_cons] at hn
    rcases List.mem_cons.mp he with rfl | he
    · simp [entryOf]
    · have hne : f.station ≠ e.station := fun h => hn.1 (h ▸ List.mem_map_of_mem he)
      have := ih hn.2 he
      simpa [entryOf, hne] using this

/-- An entry appended for another station leaves a station's entry as it was. -/
theorem entryOf_appendEntry_of_ne (table : List Entry) {n m : StationNo} (len : Nat) (h : m ≠ n) :
    entryOf (appendEntry table n len) m = entryOf table m := by
  unfold appendEntry
  split
  · rfl
  · simp [entryOf, List.find?_append, h.symm]

/-- The entry of a station that held none, after one is appended for it. -/
theorem entryOf_appendEntry_self {table : List Entry} {n : StationNo} (len : Nat) (h : entryOf table n = none) :
    entryOf (appendEntry table n len) n =
      if len = 0 then none else some { station := n, offset := freePointer table, length := len } := by
  unfold appendEntry
  split
  · exact h
  · rw [entryOf] at h
    simp [entryOf, List.find?_append, h]

/-! ### Placements (R12) -/

/-- The length appended is what is wanted as far as the free space allows. -/
theorem placementFor_length (free wanted : Nat) : (placementFor free wanted).2 = min wanted free := by
  unfold placementFor
  split
  · rw [Nat.min_eq_left ‹_›]
  · split <;> omega

theorem placementFor_ne_none (free wanted : Nat) : (placementFor free wanted).1 ≠ .none := by
  unfold placementFor
  repeat' split
  all_goals simp

/-! ### The table of a repack (R17) -/

/-- The table law of R11 that needs no roster: contiguous from point 0, within the pool, no station twice. -/
structure TableLaw (table : List Entry) : Prop where
  contiguous : contiguousFrom 0 table
  room : freePointer table ≤ Config.poolPoints
  nodup : (table.map (·.station)).Nodup

theorem TableLaw.nil : TableLaw [] := ⟨trivial, Nat.zero_le _, List.nodup_nil⟩

/-- A first frame's or a kept member's entry keeps the table law (R12, R17). -/
theorem TableLaw.append {table : List Entry} (h : TableLaw table) {n : StationNo} (hn : entryOf table n = none)
    {wanted : Nat} (hw : wanted ≤ 64) :
    TableLaw (appendEntry table n (placementFor (Config.poolPoints - freePointer table) wanted).2) := by
  have hroom := h.room
  rw [placementFor_length]
  refine ⟨contiguousFrom_appendEntry h.contiguous n (by omega), ?_, ?_⟩
  · rw [freePointer_appendEntry]
    omega
  · rw [map_station_appendEntry]
    rw [entryOf_eq_none_iff] at hn
    split
    · simpa using h.nodup
    · simpa [List.nodup_append] using ⟨h.nodup, fun e he hst => hn (hst ▸ List.mem_map_of_mem he)⟩

/-- The stations of a table built step by step are among those it started with and those taken, in their order. -/
theorem rebuildSteps_stations (roster : Roster) (ns : List StationNo) (table : List Entry) :
    ((ns.foldl (rebuildStep roster) table).map (·.station)).Sublist (table.map (·.station) ++ ns) := by
  induction ns generalizing table with
  | nil => simp
  | cons n ns ih =>
    refine (ih _).trans ?_
    rw [rebuildStep, map_station_appendEntry, List.append_assoc]
    refine List.Sublist.append_left ?_ _
    split
    · exact List.sublist_cons_self _ _
    · exact List.Sublist.refl _

/-- The peers that a repack keeps, ascending (R17). -/
def keptPeers (cfg : Configuration) (roster : Roster) : List StationNo :=
  stations.filter fun n => decide (n ≠ cfg.own) && (roster.get n).onLine

theorem rebuildTable_eq (cfg : Configuration) (roster : Roster) :
    rebuildTable cfg roster = (keptPeers cfg roster).foldl (rebuildStep roster) [] := rfl

@[simp] theorem mem_keptPeers (cfg : Configuration) (roster : Roster) (n : StationNo) :
    n ∈ keptPeers cfg roster ↔ n ≠ cfg.own ∧ (roster.get n).onLine = true := by
  simp [keptPeers]

theorem stations_pairwise : stations.Pairwise (· < ·) := List.pairwise_lt_finRange 32

theorem keptPeers_pairwise (cfg : Configuration) (roster : Roster) : (keptPeers cfg roster).Pairwise (· < ·) :=
  stations_pairwise.sublist List.filter_sublist

theorem rebuildTable_stations (cfg : Configuration) (roster : Roster) :
    ((rebuildTable cfg roster).map (·.station)).Sublist (keptPeers cfg roster) := by
  simpa [rebuildTable_eq] using rebuildSteps_stations roster (keptPeers cfg roster) []

/-- The stations of the new table ascend (R17). -/
theorem rebuildTable_pairwise (cfg : Configuration) (roster : Roster) :
    ((rebuildTable cfg roster).map (·.station)).Pairwise (· < ·) :=
  (keptPeers_pairwise cfg roster).sublist (rebuildTable_stations cfg roster)

/-- The new table names kept peers only (R17). -/
theorem mem_rebuildTable {cfg : Configuration} {roster : Roster} {e : Entry} (he : e ∈ rebuildTable cfg roster) :
    e.station ≠ cfg.own ∧ (roster.get e.station).onLine = true :=
  (mem_keptPeers ..).mp ((rebuildTable_stations cfg roster).subset (List.mem_map_of_mem he))

/-- Steps for stations that have no entry yet keep the table law, where no record is wider than 8 bytes. -/
theorem TableLaw.rebuildSteps {roster : Roster} {ns : List StationNo} (hw : ∀ n ∈ ns, (roster.get n).width.getD 0 ≤ 8)
    (hns : ns.Nodup) {table : List Entry} (h : TableLaw table) (hdisj : ∀ n ∈ ns, entryOf table n = none) :
    TableLaw (ns.foldl (rebuildStep roster) table) := by
  induction ns generalizing table with
  | nil => exact h
  | cons n ns ih =>
    rw [List.nodup_cons] at hns
    rw [List.forall_mem_cons] at hw hdisj
    refine ih hw.2 hns.2 (h.append hdisj.1 (by omega)) fun m hm => ?_
    rw [rebuildStep, entryOf_appendEntry_of_ne _ _ (by rintro rfl; exact hns.1 hm)]
    exact hdisj.2 m hm

theorem rebuildTable_law {cfg : Configuration} {roster : Roster}
    (hw : ∀ n, n ≠ cfg.own → (roster.get n).onLine = true → (roster.get n).width.getD 0 ≤ 8) :
    TableLaw (rebuildTable cfg roster) := by
  refine TableLaw.nil.rebuildSteps (fun n hn => ?_) (keptPeers_pairwise cfg roster).nodup fun _ _ => rfl
  obtain ⟨hown, hon⟩ := (mem_keptPeers ..).mp hn
  exact hw n hown hon

end Sys2Proof.Machine

namespace Sys2Proof.Machine

/-! ### Records (R2, R3) -/

theorem presenceOf_ne_unseen (age : Nat) (c : Cadence) (grace : Nat) : presenceOf age c grace ≠ .unseen := by
  unfold presenceOf
  repeat' split
  all_goals simp

theorem Cadence.rounds_pos (c : Cadence) : 0 < c.rounds := by cases c <;> decide

theorem Cadence.rounds_le (c : Cadence) : c.rounds ≤ 8 := by cases c <;> decide

theorem presenceOf_zero (c : Cadence) (grace : Nat) : presenceOf 0 c grace = .present := by
  rw [presenceOf, if_pos c.rounds_pos]

/-- At age 255 a record is ABSENT under every cadence and grace (R3, R5). -/
theorem presenceOf_255 (c : Cadence) {grace : Nat} (hg : grace ≤ 8) : presenceOf 255 c grace = .absent := by
  have hr := c.rounds_le
  have hm : c.rounds * grace ≤ 8 * 8 := Nat.mul_le_mul hr hg
  rw [presenceOf, if_neg (by omega), if_neg (by omega)]

theorem Member.onLine_iff (r : Member) : r.onLine = true ↔ r.presence = .present ∨ r.presence = .late := by
  unfold Member.onLine
  cases r.presence <;> simp

theorem Member.onLine_eq_false_iff (r : Member) :
    r.onLine = false ↔ r.presence = .unseen ∨ r.presence = .absent := by
  unfold Member.onLine
  cases r.presence <;> simp

/-- A lawful record is the UNSEEN one or one that is not UNSEEN. -/
theorem Member.lawful_of_seen {grace : Nat} {r : Member} (h : r.lawful grace) (hr : r.presence ≠ .unseen) :
    r.presence ≠ .unseen ∧ r.age ≤ 255 ∧ r.cadence.isSome ∧
      r.presence = presenceOf r.age (r.cadence.getD .one) grace ∧
      (r.reason.isSome ↔ r.presence = .absent) ∧ 1 ≤ r.width.getD 1 ∧ r.width.getD 1 ≤ 8 := by
  rcases h with rfl | h
  · exact absurd rfl hr
  · exact h

theorem Member.eq_unseen_of_lawful {grace : Nat} {r : Member} (h : r.lawful grace) (hr : r.presence = .unseen) :
    r = Member.unseen := by
  rcases h with h | h
  · exact h
  · exact absurd hr h.1

theorem Header.width_le (h : Header) : 1 ≤ h.width ∧ h.width ≤ 8 := by
  have := h.widthCode.isLt
  unfold Header.width
  omega

/-- What a record holds by the roster laws under a configuration (R2, R3, R10). -/
structure RecordLaw (cfg : Configuration) (n : StationNo) (r : Member) : Prop where
  lawful : r.lawful cfg.grace
  peer : n ≠ cfg.own → r.presence ≠ .unseen → r.width.isSome ∧ r.lastSeq.isSome ∧ r.tag.isSome ∧ r.flags.isSome
  own : n = cfg.own → r.width = none ∧ r.lastSeq = none ∧ r.tag = none ∧ r.flags = none ∧ r.placement = .none
  placed : n ≠ cfg.own → (r.placement = .none ↔ r.presence = .unseen)

theorem RecordLaw.unseen (cfg : Configuration) (n : StationNo) : RecordLaw cfg n Member.unseen :=
  { lawful := .inl rfl, peer := fun _ h => absurd rfl h, own := fun _ => ⟨rfl, rfl, rfl, rfl, rfl⟩
    placed := fun _ => ⟨fun _ => rfl, fun _ => rfl⟩ }

/-- Counts and the heard flag of a record that is not UNSEEN are free (R20). -/
theorem RecordLaw.counts {cfg : Configuration} {n : StationNo} {r : Member} (h : RecordLaw cfg n r)
    (hr : r.presence ≠ .unseen) (heard : Bool) (missed repeats tagChanges : Nat) :
    RecordLaw cfg n
      { r with heard := heard, missed := missed, repeats := repeats, tagChanges := tagChanges } :=
  have hs := Member.lawful_of_seen h.lawful hr
  { lawful := .inr hs, peer := h.peer, own := h.own, placed := h.placed }

theorem RecordLaw.zeroCounts {cfg : Configuration} {n : StationNo} {r : Member} (h : RecordLaw cfg n r) :
    RecordLaw cfg n r.zeroCounts := by
  by_cases hr : r.presence = .unseen
  · rw [Member.eq_unseen_of_lawful h.lawful hr]
    exact .unseen cfg n
  · exact h.counts hr r.heard 0 0 0

/-- A record that a repeat was found for is not UNSEEN (R81, R82). -/
theorem RecordLaw.seen_of_repeat {cfg : Configuration} {n : StationNo} {r : Member} (h : RecordLaw cfg n r)
    {seq : BitVec 6} (hr : r.heard = true ∨ r.seqDiff seq = some 0) : r.presence ≠ .unseen := by
  intro hu
  rw [Member.eq_unseen_of_lawful h.lawful hu] at hr
  rcases hr with hr | hr <;> exact absurd hr (by simp [Member.unseen, Member.seqDiff, Member.onLine])

/-- A record that is not UNSEEN departs with age 255 and reason LEFT (R5, R6). -/
theorem Member.departed_of_seen {r : Member} (hr : r.presence ≠ .unseen) :
    r.departed = { r with age := 255, presence := .absent, reason := some .left } := by
  unfold Member.departed
  cases hp : r.presence <;> simp_all

theorem RecordLaw.departed {cfg : Configuration} (hg : cfg.grace ≤ 8) {n : StationNo} {r : Member}
    (h : RecordLaw cfg n r) : RecordLaw cfg n r.departed := by
  by_cases hr : r.presence = .unseen
  · simpa [Member.departed, hr] using h
  · obtain ⟨_, _, hc, _, _, hw⟩ := Member.lawful_of_seen h.lawful hr
    rw [Member.departed_of_seen hr]
    refine { lawful := .inr ⟨by simp, le_refl _, hc, (presenceOf_255 _ hg).symm, by simp, hw⟩, peer := ?_, own := h.own
             placed := ?_ }
    · exact fun hn _ => h.peer hn hr
    · exact fun hn => ⟨fun hp => absurd ((h.placed hn).mp hp) hr, fun hp => absurd hp (by simp)⟩

theorem Member.departed_seen {r : Member} (hr : r.presence ≠ .unseen) : r.departed.presence ≠ .unseen := by
  rw [Member.departed_of_seen hr]
  simp

theorem RecordLaw.sighted {cfg : Configuration} (hg : cfg.grace ≤ 8) {r : Member} (h : RecordLaw cfg cfg.own r)
    (kind : FrameKind) (cadence : Cadence) : RecordLaw cfg cfg.own (r.sighted kind cadence) := by
  cases kind with
  | leave => exact h.departed hg
  | data =>
    unfold Member.sighted
    dsimp only
    split
    · exact h
    · obtain ⟨hw, _⟩ := h.own rfl
      exact
        { lawful := .inr ⟨by simp, Nat.zero_le _, rfl, (presenceOf_zero _ _).symm, by simp, by simp [hw]⟩
          peer := fun hn => absurd rfl hn, own := h.own, placed := fun hn => absurd rfl hn }

theorem Member.sighted_seen {r : Member} (hr : r.presence ≠ .unseen) (kind : FrameKind) (cadence : Cadence) :
    (r.sighted kind cadence).presence ≠ .unseen := by
  unfold Member.sighted
  cases kind with
  | leave => exact Member.departed_seen hr
  | data =>
    dsimp only
    split
    · exact hr
    · simp

/-- A peer's record after a refresh, whatever the tag-change count, with the placement its points got (R4, R12, R13). -/
theorem RecordLaw.refreshed {cfg : Configuration} {h : Header} (hn : h.station ≠ cfg.own) (r : Member) (changes : Nat)
    {placement : Placement} (hp : placement ≠ .none) :
    RecordLaw cfg h.station { r.refreshed h with tagChanges := changes, placement := placement } :=
  { lawful := .inr ⟨by simp [Member.refreshed], Nat.zero_le _, rfl, (presenceOf_zero _ _).symm,
      by simp [Member.refreshed], h.width_le⟩
    peer := fun _ _ => ⟨rfl, rfl, rfl, rfl⟩
    own := fun e => absurd e hn
    placed := fun _ => ⟨fun e => absurd e hp, fun e => by simp [Member.refreshed] at e⟩ }

/-! ### Aging and repack (R8, R17, R19) -/

theorem Member.closed_presence_eq_unseen_iff (grace : Nat) (exempt : Bool) (r : Member) :
    (r.closed grace exempt).presence = .unseen ↔ r.presence = .unseen := by
  unfold Member.closed
  dsimp only
  split
  · rename_i h
    simp [Member.older, presenceOf_ne_unseen, h.1]
  · rfl

theorem RecordLaw.closed {cfg : Configuration} {n : StationNo} {r : Member} (h : RecordLaw cfg n r) (exempt : Bool) :
    RecordLaw cfg n (r.closed cfg.grace exempt) := by
  unfold Member.closed
  dsimp only
  split
  · rename_i hr
    obtain ⟨hr, -, hage, -⟩ := hr
    obtain ⟨_, _, hc, _, _, hw⟩ := Member.lawful_of_seen h.lawful hr
    have hp := presenceOf_ne_unseen (r.age + 1) (r.cadence.getD .one) cfg.grace
    refine { lawful := .inr ⟨hp, hage, hc, rfl, ?_, hw⟩, peer := fun hn _ => h.peer hn hr, own := h.own, placed := ?_ }
    · simp only [Member.older]
      split <;> simp_all
    · exact fun hn => ⟨fun e => absurd ((h.placed hn).mp e) hr, fun e => absurd e hp⟩
  · by_cases hr : r.presence = .unseen
    · rw [Member.eq_unseen_of_lawful h.lawful hr]
      exact .unseen cfg n
    · exact h.counts hr false _ _ _

theorem placementIn_ne_none (table : List Entry) (n : StationNo) (r : Member) : placementIn table n r ≠ .none := by
  unfold placementIn
  repeat' split
  all_goals simp

theorem RecordLaw.repacked {cfg : Configuration} {n : StationNo} {r : Member} (h : RecordLaw cfg n r)
    (table : List Entry) : RecordLaw cfg n (r.repacked cfg.own table n) := by
  have placed (hr : r.presence ≠ .unseen) :
      RecordLaw cfg n (if n = cfg.own then r else { r with placement := placementIn table n r }) := by
    split
    · exact h
    · rename_i hn
      have hs := Member.lawful_of_seen h.lawful hr
      have hp := placementIn_ne_none table n r
      exact
        { lawful := .inr hs, peer := h.peer, own := fun e => absurd e hn
          placed := fun _ => ⟨fun e => absurd e hp, fun e => absurd e hr⟩ }
  unfold Member.repacked
  split
  · exact .unseen cfg n
  · exact h
  · exact placed (by simp [*])
  · exact placed (by simp [*])

/-- A record that stays online through a repack is not UNSEEN after it. -/
theorem Member.repacked_presence_of_onLine {own n : StationNo} {table : List Entry} {r : Member}
    (h : r.onLine = true) : (r.repacked own table n).presence = r.presence := by
  rcases (Member.onLine_iff r).mp h with hp | hp <;>
  · simp only [Member.repacked, hp]
    split <;> simp [hp]

/-! ### The image -/

/-- What roster and table hold by the roster laws under a configuration (R2, R3, R10, R11). -/
structure ImageLaw (cfg : Configuration) (img : Image) : Prop where
  grace : 2 ≤ cfg.grace ∧ cfg.grace ≤ 8
  records : ∀ n, RecordLaw cfg n (img.roster.get n)
  table : TableLaw img.table
  entries : ∀ e ∈ img.table, (img.roster.get e.station).presence ≠ .unseen ∧ e.station ≠ cfg.own

/-- The three laws of roster, record fields and allocation table at once. -/
def RosterLaws (s : State) : Prop := RosterLaw s ∧ FieldLaw s ∧ AllocationLaw s

/-- Under a configuration the three laws are the image law, with the loader idle. -/
theorem rosterLaws_iff_of_some {s : State} {cfg : Configuration} (hc : s.ldr.config = some cfg) :
    RosterLaws s ↔ s.ldr.phase = .idle ∧ ImageLaw cfg s.img := by
  simp only [RosterLaws, RosterLaw, FieldLaw, AllocationLaw, hc, Option.some.injEq, forall_eq']
  constructor
  · rintro ⟨⟨hg, hg', hphase, hlaw⟩, hfields, hcont, hroom, hnodup, hentries, hplaced⟩
    exact ⟨hphase, ⟨hg, hg'⟩, fun n => ⟨hlaw n, (hfields n).1, (hfields n).2, hplaced n⟩,
      ⟨hcont, hroom, hnodup⟩, hentries⟩
  · rintro ⟨hphase, ⟨hg, hg'⟩, hrec, ⟨hcont, hroom, hnodup⟩, hentries⟩
    exact ⟨⟨hg, hg', hphase, fun n => (hrec n).lawful⟩, fun n => ⟨(hrec n).peer, (hrec n).own⟩, hcont, hroom, hnodup,
      hentries, fun n => (hrec n).placed⟩

/-- Without a configuration the three laws say that nothing is recorded and nothing allocated. -/
theorem rosterLaws_iff_of_none {s : State} (hc : s.ldr.config = none) :
    RosterLaws s ↔ (∀ n, s.member n = Member.unseen) ∧ s.img.table = [] := by
  simp only [RosterLaws, RosterLaw, FieldLaw, AllocationLaw, hc, reduceCtorEq, false_implies, implies_true, true_and,
    and_true]
  constructor
  · rintro ⟨hunseen, -, -, -, hentries⟩
    refine ⟨hunseen, List.eq_nil_iff_forall_not_mem.mpr fun e he => hentries e he ?_⟩
    rw [hunseen]
    rfl
  · rintro ⟨hunseen, htable⟩
    rw [htable]
    exact ⟨hunseen, trivial, Nat.zero_le _, List.nodup_nil, fun _ h => nomatch h⟩

/-- The laws read the configuration, the loader's phase, the roster and the table alone. -/
theorem RosterLaws.congr {s t : State} (h : RosterLaws s) (hc : t.ldr.config = s.ldr.config)
    (hp : s.ldr.phase = .idle → t.ldr.phase = .idle) (hr : t.img.roster = s.img.roster)
    (ht : t.img.table = s.img.table) : RosterLaws t := by
  rcases hcfg : s.ldr.config with _ | cfg
  · rw [rosterLaws_iff_of_none hcfg] at h
    rw [rosterLaws_iff_of_none (hc.trans hcfg), ht]
    refine ⟨fun n => ?_, h.2⟩
    rw [State.member, hr]
    exact h.1 n
  · rw [rosterLaws_iff_of_some hcfg] at h
    obtain ⟨hidle, hg, hrec, htab, hent⟩ := h
    rw [rosterLaws_iff_of_some (hc.trans hcfg)]
    exact ⟨hp hidle, hg, by rwa [hr], by rwa [ht], by rwa [ht, hr]⟩

/-- Records that keep their law and are not forgotten keep the image law, the table as it was. -/
theorem ImageLaw.of_records {cfg : Configuration} {img img' : Image} (h : ImageLaw cfg img)
    (hrec : ∀ n, RecordLaw cfg n (img.roster.get n) → RecordLaw cfg n (img'.roster.get n))
    (hseen : ∀ n, n ≠ cfg.own → (img.roster.get n).presence ≠ .unseen → (img'.roster.get n).presence ≠ .unseen)
    (ht : img'.table = img.table) : ImageLaw cfg img' where
  grace := h.grace
  records n := hrec n (h.records n)
  table := by rw [ht]; exact h.table
  entries e he := by
    rw [ht] at he
    obtain ⟨hp, hn⟩ := h.entries e he
    exact ⟨hseen _ hn hp, hn⟩

/-- An operation on one record that keeps its law and does not forget it keeps the image law. -/
theorem ImageLaw.setMember {cfg : Configuration} {s : State} (h : ImageLaw cfg s.img) {n : StationNo} {r : Member}
    (hr : RecordLaw cfg n r) (hseen : (s.member n).presence ≠ .unseen → r.presence ≠ .unseen) :
    ImageLaw cfg (s.setMember n r).img := by
  have hget (m : StationNo) : (s.setMember n r).img.roster.get m = if m = n then r else s.member m :=
    State.member_setMember n m r s
  refine h.of_records (fun m hm => ?_) (fun m _ hm => ?_) rfl
  · rw [hget]
    split
    · rename_i hmn
      exact hmn ▸ hr
    · exact hm
  · rw [hget]
    split
    · rename_i hmn
      exact hseen (hmn ▸ hm)
    · exact hm

theorem ImageLaw.ageAll {cfg : Configuration} {s : State} (h : ImageLaw cfg s.img) (cut : Option Cursor) :
    ImageLaw cfg (s.ageAll cfg cut).img := by
  have hget (n : StationNo) := State.ageAll_member cfg cut s n
  simp only [State.member] at hget
  refine h.of_records (fun n hn => ?_) (fun n _ hn => ?_) (by simp [State.ageAll_img])
  · rw [hget]
    exact hn.closed _
  · rw [hget, ne_eq, Member.closed_presence_eq_unseen_iff]
    exact hn

theorem ImageLaw.width_le {cfg : Configuration} {img : Image} (h : ImageLaw cfg img) {n : StationNo}
    (hp : (img.roster.get n).presence ≠ .unseen) : (img.roster.get n).width.getD 0 ≤ 8 := by
  obtain ⟨-, -, -, -, -, -, hw⟩ := Member.lawful_of_seen (h.records n).lawful hp
  revert hw
  cases (img.roster.get n).width <;> simp

theorem Member.seen_of_onLine {r : Member} (h : r.onLine = true) : r.presence ≠ .unseen := by
  rcases (Member.onLine_iff r).mp h with h | h <;> simp [h]

theorem ImageLaw.repack {cfg : Configuration} {s : State} (h : ImageLaw cfg s.img) :
    ImageLaw cfg (s.repack cfg).img := by
  have hget (n : StationNo) := State.repack_member cfg s n
  simp only [State.member] at hget
  refine ⟨h.grace, fun n => ?_, ?_, fun e he => ?_⟩
  · rw [hget]
    exact (h.records n).repacked _
  · rw [State.repack_img]
    refine rebuildTable_law (cfg := cfg) (roster := s.img.roster) fun n _ hon => ?_
    exact h.width_le (Member.seen_of_onLine hon)
  · rw [State.repack_img] at he
    obtain ⟨hn, hon⟩ := mem_rebuildTable he
    rw [hget, Member.repacked_presence_of_onLine hon]
    exact ⟨Member.seen_of_onLine hon, hn⟩

/-- The image law speaks of roster and table alone. -/
theorem ImageLaw.congr {cfg : Configuration} {img img' : Image} (h : ImageLaw cfg img)
    (hr : img'.roster = img.roster) (ht : img'.table = img.table) : ImageLaw cfg img' :=
  ⟨h.grace, by rw [hr]; exact h.records, by rw [ht]; exact h.table, by rw [ht, hr]; exact h.entries⟩

theorem ImageLaw.closeWork {cfg : Configuration} {s : State} (h : ImageLaw cfg s.img) (cut : Option Cursor) :
    ImageLaw cfg (s.closeWork cfg cut).img := by
  have hwithin : ImageLaw cfg (s.takeWithin cfg).img := by
    rw [State.takeWithin_img]
    exact h.congr rfl rfl
  have haged := hwithin.ageAll cut
  have hatEval : ImageLaw cfg (s.imageAtEvaluation cfg cut) := by
    unfold State.imageAtEvaluation
    rcases State.repackIfDue_cases cfg ((s.takeWithin cfg).ageAll cfg cut) with ⟨_, he⟩ | ⟨_, he⟩ <;> rw [he]
    · exact haged.repack
    · exact haged
  refine hatEval.congr ?_ (State.closeWork_table cfg cut s)
  exact Vector.ext fun i hi => State.closeWork_member cfg cut s ⟨i, hi⟩

end Sys2Proof.Machine

namespace Sys2Proof.Machine

/-! ### A refresh, step by step (R4, R12, R13) -/

/-- The record after steps 3 and 4 of R4: the frame's fields taken, a change of tag counted (R83). -/
def Member.noted (r : Member) (h : Header) : Member :=
  { r.refreshed h with tagChanges := if r.tagDiffers h.tag then add8 r.tagChanges 1 else r.tagChanges }

/-- The part after steps 3 and 4 of R4. -/
def State.noted (h : Header) (s : State) : State :=
  ((s.setMember h.station ((s.member h.station).refreshed h)).postAll
    (refreshEvent (s.member h.station).presence h.station)).noteTag h.station (s.member h.station) h.tag

/-- The part after step 5 of R4: a first frame's member has its place (R12). -/
def State.placed (h : Header) (s : State) : State :=
  if (s.member h.station).placement = .none then (s.noted h).allocate h.station (8 * h.width) else s.noted h

@[simp] theorem State.noted_member (h : Header) (s : State) :
    (s.noted h).member h.station = (s.member h.station).noted h := by
  simp only [State.noted, State.noteTag_member, State.postAll_member, State.member_setMember_self, true_and,
    Member.noted]
  split <;> simp_all [Member.refreshed]

@[simp] theorem State.noted_table (h : Header) (s : State) : (s.noted h).img.table = s.img.table := by
  simp only [State.noted, State.noteTag_img]
  split <;> simp

@[simp] theorem State.noted_pool (h : Header) (s : State) : (s.noted h).img.pool = s.img.pool := by
  simp only [State.noted, State.noteTag_img]
  split <;> simp

@[simp] theorem State.noted_own (h : Header) (s : State) : (s.noted h).img.own = s.img.own := by
  simp only [State.noted, State.noteTag_img]
  split <;> simp

@[simp] theorem State.noted_repackPending (h : Header) (s : State) :
    (s.noted h).img.repackPending = s.img.repackPending := by
  simp only [State.noted, State.noteTag_img]
  split <;> simp

@[simp] theorem Member.noted_placement (r : Member) (h : Header) : (r.noted h).placement = r.placement := rfl

/-- A refresh writes its points once the member has its place (R4, step 6). -/
theorem State.refreshRecord_eq (h : Header) (points : List Byte) (s : State) :
    s.refreshRecord h points = (s.placed h).writePoints h.station (8 * h.width) points := by
  have hp : ((s.noted h).member h.station).placement = (s.member h.station).placement := by simp
  unfold State.placed
  rw [← hp]
  rfl

/-- The placement a member has once a frame of it has its place (R12). -/
def State.placementAfter (h : Header) (s : State) : Placement :=
  if (s.member h.station).placement = .none then
    (placementFor (Config.poolPoints - freePointer s.img.table) (8 * h.width)).1
  else (s.member h.station).placement

/-- The table once a frame has its place (R12). -/
def State.tableAfter (h : Header) (s : State) : List Entry :=
  if (s.member h.station).placement = .none then
    appendEntry s.img.table h.station (placementFor (Config.poolPoints - freePointer s.img.table) (8 * h.width)).2
  else s.img.table

theorem State.placementAfter_ne_none (h : Header) (s : State) : s.placementAfter h ≠ .none := by
  unfold State.placementAfter
  split
  · exact placementFor_ne_none _ _
  · assumption

@[simp] theorem State.placed_member (h : Header) (s : State) :
    (s.placed h).member h.station = { (s.member h.station).noted h with placement := s.placementAfter h } := by
  unfold State.placed State.placementAfter
  split <;> simp [State.allocate_member, Member.noted, Member.refreshed]

@[simp] theorem State.placed_table (h : Header) (s : State) : (s.placed h).img.table = s.tableAfter h := by
  unfold State.placed State.tableAfter
  split <;> simp [State.allocate_img]

@[simp] theorem State.placed_pool (h : Header) (s : State) : (s.placed h).img.pool = s.img.pool := by
  unfold State.placed
  split <;> simp [State.allocate_img]

theorem State.placed_own (h : Header) (s : State) : (s.placed h).img.own = s.img.own := by
  unfold State.placed
  split <;> simp [State.allocate_img]

theorem State.placed_repackPending (h : Header) (s : State) :
    (s.placed h).img.repackPending = s.img.repackPending := by
  unfold State.placed
  split <;> simp [State.allocate_img]

theorem State.refreshRecord_table (h : Header) (points : List Byte) (s : State) :
    (s.refreshRecord h points).img.table = s.tableAfter h := by
  rw [State.refreshRecord_eq, State.writePoints_table, State.placed_table]

/-- The frame's own record after a refresh (R4, R12, R13). -/
theorem State.refreshRecord_member (h : Header) (points : List Byte) (s : State) :
    (s.refreshRecord h points).member h.station =
      { (s.member h.station).noted h with
        placement := match entryOf (s.tableAfter h) h.station with
          | none => s.placementAfter h
          | some e => if 8 * h.width ≤ e.length then .full else .truncated } := by
  rw [State.refreshRecord_eq, State.writePoints_member, State.placed_table]
  cases entryOf (s.tableAfter h) h.station <;> simp

theorem State.refreshRecord_pool (h : Header) (points : List Byte) (s : State) :
    (s.refreshRecord h points).img.pool =
      match entryOf (s.tableAfter h) h.station with
      | none => s.img.pool
      | some e => s.img.pool.write e (8 * h.width) points := by
  rw [State.refreshRecord_eq, State.writePoints_img, State.placed_table]
  cases entryOf (s.tableAfter h) h.station <;> simp

@[simp] theorem State.refreshRecord_own (h : Header) (points : List Byte) (s : State) :
    (s.refreshRecord h points).img.own = s.img.own := by
  rw [State.refreshRecord_eq, State.writePoints_img]
  split <;> simp [State.placed_own]

@[simp] theorem State.refreshRecord_repackPending (h : Header) (points : List Byte) (s : State) :
    (s.refreshRecord h points).img.repackPending = s.img.repackPending := by
  rw [State.refreshRecord_eq, State.writePoints_img]
  split <;> simp [State.placed_repackPending]

/-- A refresh leaves its member with a placement. -/
theorem State.refreshRecord_placement_ne_none (h : Header) (points : List Byte) (s : State) :
    ((s.refreshRecord h points).member h.station).placement ≠ .none := by
  rw [State.refreshRecord_member]
  dsimp only
  split
  · exact s.placementAfter_ne_none h
  · split <;> simp

/-! ### The image law across a refresh -/

/-- A station without a placement has no entry (R11). -/
theorem ImageLaw.entryOf_eq_none {cfg : Configuration} {img : Image} (hl : ImageLaw cfg img) {n : StationNo}
    (hn : n ≠ cfg.own) (hp : (img.roster.get n).placement = .none) : entryOf img.table n = none := by
  rw [entryOf_eq_none_iff]
  intro hmem
  obtain ⟨e, he, rfl⟩ := List.mem_map.mp hmem
  exact (hl.entries e he).1 (((hl.records _).placed hn).mp hp)

theorem ImageLaw.tableAfter {cfg : Configuration} {s : State} (hl : ImageLaw cfg s.img) {h : Header}
    (hn : h.station ≠ cfg.own) : TableLaw (s.tableAfter h) := by
  unfold State.tableAfter
  split
  · have hw := h.width_le
    exact hl.table.append (hl.entryOf_eq_none hn ‹_›) (by omega)
  · exact hl.table

/-- A refresh adds entries for its own station only. -/
theorem State.mem_tableAfter {h : Header} {s : State} {e : Entry} (he : e ∈ s.tableAfter h) :
    e ∈ s.img.table ∨ e.station = h.station := by
  unfold State.tableAfter appendEntry at he
  repeat' split at he
  · exact .inl he
  · rcases List.mem_append.mp he with he | he
    · exact .inl he
    · rw [List.mem_singleton.mp he]
      exact .inr rfl
  · exact .inl he

theorem ImageLaw.refreshRecord {cfg : Configuration} {s : State} (hl : ImageLaw cfg s.img) {h : Header}
    (hn : h.station ≠ cfg.own) (points : List Byte) : ImageLaw cfg (s.refreshRecord h points).img := by
  have hself := State.refreshRecord_member h points s
  have hplaced := State.refreshRecord_placement_ne_none h points s
  have hother (n : StationNo) (hne : n ≠ h.station) := State.refreshRecord_member_of_ne h points n s hne
  have hpresent : ((s.refreshRecord h points).member h.station).presence = .present := by
    rw [hself]
    rfl
  simp only [State.member] at hself hplaced hother hpresent
  refine ⟨hl.grace, fun n => ?_, ?_, fun e he => ?_⟩
  · by_cases hne : n = h.station
    · subst hne
      rw [hself] at hplaced ⊢
      exact RecordLaw.refreshed hn _ _ hplaced
    · rw [hother n hne]
      exact hl.records n
  · rw [State.refreshRecord_table]
    exact hl.tableAfter hn
  · rw [State.refreshRecord_table] at he
    by_cases hne : e.station = h.station
    · rw [hne, hpresent]
      exact ⟨by simp, hn⟩
    · rw [hother _ hne]
      exact hl.entries e ((State.mem_tableAfter he).resolve_right hne)

end Sys2Proof.Machine

namespace Sys2Proof.Machine

theorem ImageLaw.countRepeat {cfg : Configuration} {s : State} (hl : ImageLaw cfg s.img) {n : StationNo}
    {seq : BitVec 6} (hr : (s.member n).heard = true ∨ (s.member n).seqDiff seq = some 0) :
    ImageLaw cfg (s.countRepeat n).img := by
  have hn : RecordLaw cfg n (s.member n) := hl.records n
  have hseen := hn.seen_of_repeat hr
  rw [State.countRepeat_img]
  exact hl.setMember (hn.counts hseen _ _ _ _) fun h => h

theorem ImageLaw.peerLeave {cfg : Configuration} {s : State} (hl : ImageLaw cfg s.img) (n : StationNo) :
    ImageLaw cfg (s.peerLeave n).img := by
  simp only [State.peerLeave]
  split
  · exact hl
  · rw [State.post_img]
    exact hl.setMember ((hl.records n).departed hl.grace.2) Member.departed_seen

theorem State.peerLeave_own (n : StationNo) (s : State) : (s.peerLeave n).img.own = s.img.own := by
  simp only [State.peerLeave]
  split <;> simp

theorem ImageLaw.sighted {cfg : Configuration} {s : State} (hl : ImageLaw cfg s.img) (kind : FrameKind)
    (cadence : Cadence) :
    ImageLaw cfg (s.setMember cfg.own ((s.member cfg.own).sighted kind cadence)).img :=
  hl.setMember ((hl.records cfg.own).sighted hl.grace.2 kind cadence) fun h => Member.sighted_seen h kind cadence

theorem ImageLaw.clearEffect {cfg : Configuration} {s : State} (hl : ImageLaw cfg s.img) :
    ImageLaw cfg s.clearEffect.img := by
  have hget := State.clearEffect_member s
  simp only [State.member] at hget
  refine hl.of_records (fun n hn => ?_) (fun n _ hn => ?_) (by simp)
  · rw [hget]
    exact hn.zeroCounts
  · rw [hget]
    exact hn

/-- An effect that leaves configuration and loader alone and keeps the image law keeps the roster laws while a configuration is
held. -/
theorem RosterLaws.of_image {s t : State} {cfg : Configuration} (hc : s.ldr.config = some cfg) (h : RosterLaws s)
    (hldr : t.ldr = s.ldr) (himg : ImageLaw cfg s.img → ImageLaw cfg t.img) : RosterLaws t := by
  rw [rosterLaws_iff_of_some hc] at h
  rw [rosterLaws_iff_of_some (hldr ▸ hc), hldr]
  exact ⟨h.1, himg h.2⟩

/-- Where a check is under way, no configuration is held. -/
theorem RosterLaws.config_of_checking {s : State} (h : RosterLaws s) (hp : s.ldr.phase = .checking) :
    s.ldr.config = none := by
  rcases hc : s.ldr.config with _ | cfg
  · rfl
  · rw [rosterLaws_iff_of_some hc] at h
    exact absurd (hp.symm.trans h.1) (by decide)

/-- Every effect keeps the laws of roster, record fields and allocation table (R2, R3, R10, R11). -/
theorem Effect.keeps_rosterLaws {s t : State} (he : Effect s t) (h : RosterLaws s) : RosterLaws t := by
  cases he with
  | quiet hq => exact h.congr hq.config hq.idle hq.roster hq.table
  | enters st detail _ _ => exact h.congr (by simp) (by simp) (by simp) (by simp)
  | loading hl =>
    rw [rosterLaws_iff_of_none hl.config, hl.img]
    exact ⟨fun n => by simp [State.member, hl.img, Image.empty], rfl⟩
  | configGood raw _ hp hf =>
    have hnone := h.config_of_checking hp
    obtain ⟨hunseen, htable⟩ := (rosterLaws_iff_of_none hnone).mp h
    simp only [State.member] at hunseen
    rw [rosterLaws_iff_of_some (cfg := configurationOf s.ldr.buffer) (by simp [State.configGood])]
    refine ⟨by simp [State.configGood], configurationOf_grace_of_pass hf, fun n => ?_, ?_, ?_⟩
    · simpa [State.configGood, hunseen] using RecordLaw.unseen _ n
    · simpa [State.configGood, htable] using TableLaw.nil
    · simp [State.configGood, htable]
  | configBad reason _ hp =>
    obtain ⟨hunseen, htable⟩ := (rosterLaws_iff_of_none (h.config_of_checking hp)).mp h
    rw [rosterLaws_iff_of_none (by simp [State.configBad, Loader.reset])]
    exact ⟨fun n => by simpa [State.member] using hunseen n, by simpa using htable⟩
  | accepts cfg inputs _ _ _ => exact h.congr (by simp) (by simp) (by simp) (by simp)
  | closes cfg cut _ hc => exact h.of_image hc (by simp) fun hl => hl.closeWork cut
  | repeats n seq _ hr =>
    rcases hc : s.ldr.config with _ | cfg
    · obtain ⟨hunseen, _⟩ := (rosterLaws_iff_of_none hc).mp h
      rw [hunseen n] at hr
      exact absurd hr (by simp [Member.unseen, Member.seqDiff, Member.onLine])
    · exact h.of_image hc (by simp) fun hl => hl.countRepeat hr
  | refreshes cfg hdr points _ hc hn => exact h.of_image hc (by simp) fun hl => hl.refreshRecord hn points
  | leaves cfg n _ hc hn => exact h.of_image hc (by simp) fun hl => hl.peerLeave n
  | sights cfg kind cadence _ hc => exact h.of_image hc (by simp) fun hl => hl.sighted kind cadence
  | clears _ =>
    rcases hc : s.ldr.config with _ | cfg
    · obtain ⟨hunseen, htable⟩ := (rosterLaws_iff_of_none hc).mp h
      rw [rosterLaws_iff_of_none (by simpa using hc)]
      refine ⟨fun n => ?_, by simpa using htable⟩
      rw [State.clearEffect_member, hunseen]
      rfl
    · exact h.of_image hc (by simp) fun hl => hl.clearEffect

/-- Settles O53: every effect of a step keeps the three laws, and sampling inputs touches none of what they read. -/
theorem stepKeepsRosterLaws : Obligations.StepKeepsRosterLaws := by
  intro s t hroster hfield halloc hstep
  exact step_keeps (P := RosterLaws) (fun _ _ he hl => he.keeps_rosterLaws hl)
    (fun _ _ _ hl => hl.congr rfl id rfl rfl) hstep ⟨hroster, hfield, halloc⟩

end Sys2Proof.Machine

namespace Sys2Proof.Machine

/-! ### What a close leaves, field by field (R7, R30, R111, R138, R161) -/

@[simp] theorem State.stageCopy_tap_queue (s : State) : s.stageCopy.tap.queue = s.tap.queue := by
  unfold State.stageCopy
  split <;> rfl

@[simp] theorem State.stageCopy_tap_lossMark (s : State) : s.stageCopy.tap.lossMark = s.tap.lossMark := by
  unfold State.stageCopy
  split <;> rfl

@[simp] theorem State.stageCopy_tap_lostEvents (s : State) : s.stageCopy.tap.lostEvents = s.tap.lostEvents := by
  unfold State.stageCopy
  split <;> rfl

/-- Staging a copy counts a skipped one, or no counter moves (R161). -/
theorem State.stageCopy_cnt (s : State) : s.stageCopy.cnt = s.cnt ∨ s.stageCopy.cnt = s.cnt.bumpSkippedCopies := by
  unfold State.stageCopy
  split
  · exact .inl rfl
  · exact .inl rfl
  · exact .inr rfl

@[simp] theorem State.closeWork_ctl (cfg : Configuration) (cut : Option Cursor) (s : State) :
    (s.closeWork cfg cut).ctl = ((s.evaluatedAtClose cfg cut).controlAtClose cfg).ctl := by
  simp [State.closeWork]

@[simp] theorem State.closeWork_tx (cfg : Configuration) (cut : Option Cursor) (s : State) :
    (s.closeWork cfg cut).tx = ((s.evaluatedAtClose cfg cut).controlAtClose cfg).tx := by
  simp [State.closeWork]

@[simp] theorem State.closeWork_eng (cfg : Configuration) (cut : Option Cursor) (s : State) :
    (s.closeWork cfg cut).eng = (s.evaluatedAtClose cfg cut).eng := by
  simp [State.closeWork]

@[simp] theorem State.closeWork_inp (cfg : Configuration) (cut : Option Cursor) (s : State) :
    (s.closeWork cfg cut).inp = (s.takeWithin cfg).inp := by
  simp [State.closeWork, State.evaluatedAtClose, State.ageAll]

@[simp] theorem State.closeWork_within (cfg : Configuration) (cut : Option Cursor) (s : State) :
    (s.closeWork cfg cut).within = (s.takeWithin cfg).within := by
  simp [State.closeWork, State.evaluatedAtClose, State.ageAll]

/-- The held values after a close are the new term values (R137). -/
theorem State.closeWork_held (cfg : Configuration) (cut : Option Cursor) (s : State) :
    (s.closeWork cfg cut).drv.held = some (termValues (s.closeWork cfg cut).eng.terms) := by
  simp [State.closeWork, State.evaluatedAtClose, State.evaluateTerms]

/-- The outputs after a close follow the state it leaves and the new held values (R138). -/
theorem State.closeWork_levels (cfg : Configuration) (cut : Option Cursor) (s : State) :
    (s.closeWork cfg cut).drv.levels =
      outputLevels (s.closeWork cfg cut).ctl.station s.ldr.config (s.closeWork cfg cut).drv.held := by
  simp [State.closeWork]

theorem State.closeWork_cnt (cfg : Configuration) (cut : Option Cursor) (s : State) :
    (s.closeWork cfg cut).cnt = s.cnt ∨ (s.closeWork cfg cut).cnt = s.cnt.bumpSkippedCopies := by
  simpa [State.closeWork] using State.stageCopy_cnt (State.postAll (s.withInputs cfg (s.closeEvents cfg cut))
    ((s.evaluatedAtClose cfg cut).controlAtClose cfg)).setOutputs

/-- The own points after a close: acceptances that fall within it, then the term-sourced ones from the new term values (R39, R131). -/
theorem State.closeWork_own (cfg : Configuration) (cut : Option Cursor) (s : State) :
    (s.closeWork cfg cut).img.own =
      (s.takeWithin cfg).img.own.map fun own =>
        updateOwn cfg own (termLevel (termValues (s.closeWork cfg cut).eng.terms)) := by
  have hown : (((s.takeWithin cfg).ageAll cfg cut).repackIfDue cfg).img.own = (s.takeWithin cfg).img.own := by
    rcases State.repackIfDue_cases cfg ((s.takeWithin cfg).ageAll cfg cut) with ⟨_, h⟩ | ⟨_, h⟩ <;>
      simp [h, State.repack_img, State.ageAll_img]
  rw [State.closeWork_img, State.closeWork_eng, State.evaluatedAtClose, State.evaluateTerms_img, hown]
  rfl

@[simp] theorem State.takeWithin_own_isSome (cfg : Configuration) (s : State) :
    (s.takeWithin cfg).img.own.isSome = s.img.own.isSome := by
  unfold State.takeWithin
  split <;> simp [State.takeLevels]

@[simp] theorem State.takeWithin_inp_isSome (cfg : Configuration) (s : State) :
    (s.takeWithin cfg).inp.isSome = s.inp.isSome := by
  unfold State.takeWithin
  split
  · simp_all [State.takeLevels]
  all_goals rfl

@[simp] theorem State.controlAtClose_restarts (cfg : Configuration) (s : State) :
    (s.controlAtClose cfg).ctl.restarts = s.ctl.restarts := by
  unfold State.controlAtClose
  split
  · split
    · split <;> rfl
    · rfl
  · split <;> rfl
  all_goals rfl

end Sys2Proof.Machine

namespace Sys2Proof.Machine

/-! ### The terms (R27, R37) -/

/-- The term law reads configuration, loader's phase and term states alone. -/
theorem TermLaw.congr {s t : State} (h : TermLaw s) (hc : t.ldr.config = s.ldr.config)
    (hp : s.ldr.phase = .idle → t.ldr.phase = .idle) (ht : t.eng.terms = s.eng.terms) : TermLaw t := by
  unfold TermLaw at *
  rw [hc, ht]
  rcases hcfg : s.ldr.config with _ | cfg <;> rw [hcfg] at h
  · exact h
  · exact ⟨hp h.1, h.2⟩

/-- An evaluated close keeps a phase's count within hold and release (R35–R37). -/
theorem Phase.countLaw_next {t : Term} {p : Phase} (h : p.countLaw t) (raw : Tri) : (p.next t raw).countLaw t := by
  unfold Phase.next
  split
  · unfold Phase.onTrue
    split
    · split
      · trivial
      · exact ⟨le_refl 1, by omega⟩
    · split
      · trivial
      · exact ⟨by omega, by omega⟩
    · trivial
    · trivial
  · unfold Phase.onFalse
    split
    · split
      · trivial
      · exact ⟨le_refl 1, by omega⟩
    · split
      · trivial
      · exact ⟨by omega, by omega⟩
    · trivial
    · trivial
  · exact h

theorem TermLaw.config_of_checking {s : State} (h : TermLaw s) (hp : s.ldr.phase = .checking) :
    s.ldr.config = none := by
  rcases hc : s.ldr.config with _ | cfg
  · rfl
  · unfold TermLaw at h
    rw [hc] at h
    exact absurd (hp.symm.trans h.1) (by decide)

/-- Every effect keeps the term law. -/
theorem Effect.keeps_termLaw {s t : State} (he : Effect s t) (h : TermLaw s) : TermLaw t := by
  cases he with
  | quiet hq => exact h.congr hq.config hq.idle hq.terms
  | loading hl =>
    unfold TermLaw
    rw [hl.config, hl.eng]
    exact reset_term
  | configGood raw _ hp _ =>
    have hreset := h
    unfold TermLaw at hreset
    rw [h.config_of_checking hp] at hreset
    simp only [TermLaw, State.configGood, State.enterListen_ldr, State.enterListen_eng, true_and]
    intro j
    rw [hreset j]
    split <;> trivial
  | configBad reason _ hp =>
    have hreset := h
    unfold TermLaw at hreset
    rw [h.config_of_checking hp] at hreset
    simpa [TermLaw, State.configBad, Loader.reset] using hreset
  | closes cfg cut _ hc =>
    unfold TermLaw at *
    rw [hc] at h
    rw [State.closeWork_ldr, hc, State.closeWork_terms]
    refine ⟨h.1, fun j => ?_⟩
    have hj := h.2 j
    rw [evaluate_get]
    cases ht : cfg.terms[j.val]? <;> rw [ht] at hj
    · exact hj
    · exact Phase.countLaw_next hj _
  | enters _ _ _ _ => exact h.congr (by simp) (by simp) (by simp)
  | accepts _ _ _ _ _ => exact h.congr (by simp) (by simp) (by simp)
  | repeats _ _ _ _ => exact h.congr (by simp) (by simp) (by simp)
  | refreshes _ _ _ _ _ _ => exact h.congr (by simp) (by simp) (by simp)
  | leaves _ _ _ _ _ => exact h.congr (by simp) (by simp) (by simp)
  | sights _ _ _ _ _ => exact h.congr (by simp) (by simp) (by simp)
  | clears _ => exact h.congr (by simp) (by simp) (by simp)

/-! ### The outputs (R136) -/

/-- The output law reads station state, configuration and output driver alone. -/
theorem OutputLaw.congr {s t : State} (h : OutputLaw s) (hst : t.ctl.station = s.ctl.station)
    (hc : t.ldr.config = s.ldr.config) (hd : t.drv = s.drv) : OutputLaw t := by
  unfold OutputLaw at *
  rwa [hst, hc, hd]

/-- What R136 gives for a station state that holds a configuration, output by output. -/
theorem getLsbD_outputLevels {station : Station} (h : station.unconfigured = false) (cfg : Configuration)
    (held : Option (BitVec 16)) (i : Fin 8) :
    (outputLevels station (some cfg) held).getLsbD i.val = outputLevel station (held.getD 0) (cfg.outputs.get i) := by
  have hi : Fin.ofNat 8 i.val = i := Fin.ext (Nat.mod_eq_of_lt i.isLt)
  simp only [outputLevels, h]
  rw [getLsbD_bitsOf, hi, decide_eq_true i.isLt, Bool.true_and]

/-- Outputs that stand at what the table of R136 gives obey the output law. -/
theorem OutputLaw.of_levels {t : State} (h : t.drv.levels = outputLevels t.ctl.station t.ldr.config t.drv.held) :
    OutputLaw t := by
  constructor
  · intro hu
    rw [h]
    simp [outputLevels, hu]
  · intro hu cfg hc i
    rw [h, hc, getLsbD_outputLevels hu, outputLevel]
    cases t.ctl.station.followsTerms <;> cases (cfg.outputs.get i).source <;> rfl

/-- Every effect keeps the output law. -/
theorem Effect.keeps_outputLaw {s t : State} (he : Effect s t) (h : OutputLaw s) : OutputLaw t := by
  cases he with
  | quiet hq => exact h.congr hq.station hq.config hq.drv
  | loading hl => exact .of_levels (by rw [hl.station, hl.config, hl.drv]; rfl)
  | enters st detail _ _ => exact .of_levels (by simp [Controller.enter])
  | configGood raw _ _ _ => exact .of_levels (by simp [State.configGood, Controller.enter])
  | configBad reason _ _ => exact .of_levels (by simp [State.configBad, Controller.enter])
  | closes cfg cut _ _ => exact .of_levels (by rw [State.closeWork_levels, State.closeWork_ldr])
  | accepts _ _ _ _ _ => exact h.congr (by simp) (by simp) (by simp)
  | repeats _ _ _ _ => exact h.congr (by simp) (by simp) (by simp)
  | refreshes _ _ _ _ _ _ => exact h.congr (by simp) (by simp) (by simp)
  | leaves _ _ _ _ _ => exact h.congr (by simp) (by simp) (by simp)
  | sights _ _ _ _ _ => exact h.congr (by simp) (by simp) (by simp)
  | clears _ => exact h.congr (by simp) (by simp) (by simp)

/-! ### Queue and counts (R20, R64, R87, R102, R163) -/

/-- Every effect keeps the queue's room and the width of the lost-event count. -/
theorem Effect.keeps_queueLaw {s t : State} (he : Effect s t) (h : QueueLaw s) : QueueLaw t := by
  cases he with
  | quiet hq => exact hq.queue h
  | loading hl => exact hl.queue h
  | enters _ _ _ _ => exact h.of_posts (State.enter_posts _ _ _)
  | configGood _ _ _ _ => exact h.of_posts (State.configGood_posts _ _)
  | configBad _ _ _ => exact h.of_posts (State.configBad_posts _ _)
  | accepts _ _ _ _ _ => exact h.of_posts (State.acceptInputs_posts _ _ _)
  | closes cfg cut _ _ =>
    obtain ⟨u, _, hposts, htap⟩ := State.closeWork_tap cfg cut s
    have hu : QueueLaw u := h.of_posts hposts
    unfold QueueLaw at *
    simpa [htap] using hu
  | repeats _ _ _ _ => exact h
  | refreshes _ _ _ _ _ _ => exact h.of_posts (State.refreshRecord_posts _ _ _)
  | leaves _ _ _ _ _ => exact h.of_posts (State.peerLeave_posts _ _)
  | sights _ _ _ _ _ => exact h
  | clears _ => exact ⟨h.1, Nat.zero_le _⟩

/-- The three counts of a record are 8 bits wide (R20). -/
def Member.Narrow (r : Member) : Prop := r.missed ≤ 255 ∧ r.repeats ≤ 255 ∧ r.tagChanges ≤ 255

theorem countLaw_iff (s : State) : CountLaw s ↔ s.cnt.Wide ∧ s.ctl.restarts ≤ 255 ∧ ∀ n, (s.member n).Narrow := Iff.rfl

theorem Member.Narrow.closed {r : Member} (h : r.Narrow) (grace : Nat) (exempt : Bool) :
    (r.closed grace exempt).Narrow := by
  unfold Member.closed
  dsimp only
  split <;> exact h

theorem Member.Narrow.repacked {r : Member} (h : r.Narrow) (own n : StationNo) (table : List Entry) :
    (r.repacked own table n).Narrow := by
  unfold Member.repacked
  split
  · exact ⟨Nat.zero_le _, Nat.zero_le _, Nat.zero_le _⟩
  · exact h
  all_goals
    split
    · exact h
    · exact h

theorem Member.Narrow.departed {r : Member} (h : r.Narrow) : r.departed.Narrow := by
  unfold Member.departed
  split <;> exact h

theorem Member.Narrow.sighted {r : Member} (h : r.Narrow) (kind : FrameKind) (cadence : Cadence) :
    (r.sighted kind cadence).Narrow := by
  unfold Member.sighted
  split
  · split <;> exact h
  · exact h.departed

theorem Member.Narrow.noted {r : Member} (h : r.Narrow) (hdr : Header) : (r.noted hdr).Narrow := by
  refine ⟨add8_le _ _, h.2.1, ?_⟩
  simp only [Member.noted]
  split
  · exact add8_le _ _
  · exact h.2.2

/-- Counters and records that stay narrow where they were keep the count law. -/
theorem CountLaw.of_members {s t : State} (h : CountLaw s) (hw : s.cnt.Wide → t.cnt.Wide)
    (hr : t.ctl.restarts = s.ctl.restarts) (hm : ∀ n, (s.member n).Narrow → (t.member n).Narrow) : CountLaw t :=
  ⟨hw h.1, hr ▸ h.2.1, fun n => hm n (h.2.2 n)⟩

theorem CountLaw.setMember {s : State} (h : CountLaw s) {n : StationNo} {r : Member}
    (hr : (s.member n).Narrow → r.Narrow) : CountLaw (s.setMember n r) := by
  refine h.of_members id rfl fun m hm => ?_
  rw [State.member_setMember]
  split
  · exact hr (by subst m; exact hm)
  · exact hm

theorem State.imageAtEvaluation_narrow (cfg : Configuration) (cut : Option Cursor) (s : State) (n : StationNo)
    (h : (s.member n).Narrow) : ((s.imageAtEvaluation cfg cut).roster.get n).Narrow := by
  have haged : (((s.takeWithin cfg).ageAll cfg cut).member n).Narrow := by
    rw [State.ageAll_member, State.takeWithin_member]
    exact h.closed _ _
  unfold State.imageAtEvaluation
  rcases State.repackIfDue_cases cfg ((s.takeWithin cfg).ageAll cfg cut) with ⟨_, he⟩ | ⟨_, he⟩ <;> rw [he]
  · have hrep := haged.repacked cfg.own n (rebuildTable cfg ((s.takeWithin cfg).ageAll cfg cut).img.roster)
    rwa [← State.repack_member] at hrep
  · exact haged

/-- Every effect keeps the widths of the counts. -/
theorem Effect.keeps_countLaw {s t : State} (he : Effect s t) (h : CountLaw s) : CountLaw t := by
  cases he with
  | quiet hq =>
    exact h.of_members hq.wide hq.restarts fun n hn => by rw [State.member, hq.roster]; exact hn
  | loading hl =>
    refine ⟨hl.wide h.1, hl.restarts h.2.1, fun n => ?_⟩
    simp [State.member, hl.img, Image.empty, Member.unseen]
  | enters _ _ _ _ => exact h.of_members (by simp) (by simp [Controller.enter]) (by simp)
  | configGood _ _ _ _ =>
    exact h.of_members (by simp) (by simp [State.configGood, Controller.enter])
      (by simp [State.member, State.configGood])
  | configBad _ _ _ =>
    exact h.of_members (by simp) (by simp [State.configBad, Controller.enter]) (by simp [State.member])
  | accepts _ _ _ _ _ => exact h.of_members (by simp) (by simp) (by simp [State.member])
  | closes cfg cut _ _ =>
    refine h.of_members (fun hw => ?_) (by simp) fun n hn => ?_
    · rcases State.closeWork_cnt cfg cut s with hc | hc <;> rw [hc]
      · exact hw
      · exact hw.of_bumped (by simp [Counters.bumpSkippedCopies, Counters.toList])
    · rw [State.closeWork_member]
      exact State.imageAtEvaluation_narrow cfg cut s n hn
  | repeats n _ _ _ =>
    refine h.of_members (fun hw => hw.of_bumped ?_) rfl fun m hm => ?_
    · simp [State.countRepeat, Counters.bumpRepeats, Counters.toList]
    · rw [State.countRepeat_member]
      split
      · subst m
        exact ⟨hm.1, add8_le _ _, hm.2.2⟩
      · exact hm
  | refreshes _ hdr points _ _ _ =>
    refine h.of_members (by simp) (by simp) fun m hm => ?_
    by_cases hne : m = hdr.station
    · subst m
      rw [State.refreshRecord_member]
      exact hm.noted hdr
    · rwa [State.refreshRecord_member_of_ne _ _ _ _ hne]
  | leaves _ n _ _ _ =>
    refine h.of_members (by simp) (by simp) fun m hm => ?_
    rw [State.peerLeave_member]
    split
    · rename_i hmn
      obtain ⟨rfl, -⟩ := hmn
      exact hm.departed
    · exact hm
  | sights _ kind cadence _ _ => exact h.setMember fun hn => hn.sighted kind cadence
  | clears _ =>
    refine h.of_members (fun _ => ?_) (by simp) fun n _ => ?_
    · rw [State.clearEffect_cnt]
      exact Counters.zero_wide
    · rw [State.clearEffect_member]
      exact ⟨Nat.zero_le _, Nat.zero_le _, Nat.zero_le _⟩

/-! ### Own points, input filters and held values (R21, R126, R135) -/

/-- The presence law, with the loader idle while a configuration is held. -/
def PresenceLaws (s : State) : Prop := (s.ldr.phase ≠ .idle → s.ldr.config = none) ∧ PresenceLaw s

theorem PresenceLaws.congr {s t : State} (h : PresenceLaws s) (hc : t.ldr.config = s.ldr.config)
    (hp : s.ldr.phase = .idle → t.ldr.phase = .idle) (ho : t.img.own.isSome = s.img.own.isSome)
    (hi : t.inp.isSome = s.inp.isSome) (hh : t.drv.held.isSome = s.drv.held.isSome) : PresenceLaws t := by
  obtain ⟨hidle, hown, hinp, hheld⟩ := h
  refine ⟨fun hne => ?_, ?_, ?_, ?_⟩
  · exact hc.trans (hidle fun he => hne (hp he))
  · rw [ho, hc, hown]
  · rw [hi, hc, hinp]
  · rw [hh, hc, hheld]

/-- Every effect keeps the presence law. -/
theorem Effect.keeps_presenceLaws {s t : State} (he : Effect s t) (h : PresenceLaws s) : PresenceLaws t := by
  cases he with
  | quiet hq => exact h.congr hq.config hq.idle (by rw [hq.own]) (by rw [hq.inp]) (by rw [hq.drv])
  | loading hl =>
    refine ⟨fun _ => hl.config, ?_, ?_, ?_⟩ <;> rw [hl.config]
    · rw [hl.img]; rfl
    · rw [hl.inp]; rfl
    · rw [hl.drv]; rfl
  | configGood raw _ _ _ => simp [PresenceLaws, PresenceLaw, State.configGood]
  | configBad reason _ hp =>
    have hnone : s.ldr.config = none := h.1 (by simp [hp])
    have hlaw := h.2
    unfold PresenceLaw at hlaw
    rw [hnone] at hlaw
    simpa [PresenceLaws, PresenceLaw, State.configBad, Loader.reset] using hlaw
  | closes cfg cut _ hc =>
    refine h.congr (by simp) (by simp) ?_ (by simp) ?_
    · simp [State.closeWork_own]
    · rw [State.closeWork_held, h.2.2.2, hc]
      rfl
  | enters _ _ _ _ => exact h.congr (by simp) (by simp) (by simp) (by simp) (by simp)
  | accepts _ inputs _ _ hi =>
    exact h.congr (by simp) (by simp) (by simp [State.takeLevels]) (by simp [State.takeLevels, hi]) (by simp)
  | repeats _ _ _ _ => exact h.congr (by simp) (by simp) rfl (by simp) (by simp)
  | refreshes _ _ _ _ _ _ => exact h.congr (by simp) (by simp) (by simp) (by simp) (by simp)
  | leaves _ _ _ _ _ => exact h.congr (by simp) (by simp) (by rw [State.peerLeave_own]) (by simp) (by simp)
  | sights _ _ _ _ _ => exact h.congr rfl id rfl rfl rfl
  | clears _ => exact h.congr (by simp) (by simp) (by simp) (by simp) (by simp)

/-- Where station state and loader agree, no configuration is held while the loader works (R104, R142). -/
theorem StationLaw.config_of_busy {s : State} (h : StationLaw s) (hp : s.ldr.phase ≠ .idle) : s.ldr.config = none := by
  obtain ⟨hconfig, hloading, -⟩ := h
  rw [hloading hp] at hconfig
  exact Option.isNone_iff_eq_none.mp (Option.isSome_eq_false_iff.mp hconfig)

/-! ### The candidate counts (R126, R127) -/

/-- Every candidate count stands in a relation to its input's settle count. -/
def CountsLaw (R : Nat → Nat → Prop) (s : State) : Prop :=
  ∀ cfg inputs, s.ldr.config = some cfg → s.inp = some inputs →
    ∀ j : Fin 16, R (inputs.get j).count (2 ^ (cfg.settle.get (groupOf j)).val)

theorem candidateLaw_iff (s : State) : CandidateLaw s ↔ CountsLaw (· ≤ ·) s := Iff.rfl

theorem settledLaw_iff (s : State) : SettledLaw s ↔ CountsLaw (· < ·) s := Iff.rfl

theorem CountsLaw.congr {R : Nat → Nat → Prop} {s t : State} (h : CountsLaw R s) (hc : t.ldr.config = s.ldr.config)
    (hi : t.inp = s.inp) : CountsLaw R t := by
  unfold CountsLaw at *
  rwa [hc, hi]

/-- Acceptances leave counts of 0 and counts as they were (R127). -/
theorem CountsLaw.takeLevels {R : Nat → Nat → Prop} (h0 : ∀ k, R 0 (2 ^ k)) {s : State} (h : CountsLaw R s)
    {cfg : Configuration} {inputs : Vector InputState 16} (hc : s.ldr.config = some cfg) (hi : s.inp = some inputs) :
    CountsLaw R (s.takeLevels cfg inputs) := by
  intro cfg' after hc' ha j
  obtain rfl : cfg = cfg' := by simpa [hc] using hc'
  obtain rfl : (Vector.ofFn fun j => (inputs.get j).accept (cfg.settleCount j)) = after := by
    simpa [State.takeLevels] using ha
  rw [Vector.get_ofFn, InputState.accept]
  split
  · exact h0 _
  · exact h cfg inputs hc hi j

/-- No effect breaks a relation of the counts to their settle counts that a count of 0 obeys. -/
theorem Effect.keeps_countsLaw {R : Nat → Nat → Prop} (h0 : ∀ k, R 0 (2 ^ k)) {s t : State} (he : Effect s t)
    (h : CountsLaw R s) : CountsLaw R t := by
  cases he with
  | quiet hq => exact h.congr hq.config hq.inp
  | loading hl => exact fun cfg inputs hc => absurd (hl.config.symm.trans hc) (by simp)
  | configGood raw _ _ _ =>
    intro cfg inputs _ hi j
    obtain rfl : filtersAt raw = inputs := by simpa [State.configGood] using hi
    rw [filtersAt, Vector.get_ofFn]
    exact h0 _
  | configBad reason _ _ => exact fun cfg inputs hc => absurd hc (by simp [State.configBad, Loader.reset])
  | accepts cfg inputs _ hc hi => exact (h.takeLevels h0 hc hi).congr (by simp) (by simp)
  | closes cfg cut _ hc =>
    have hwithin : CountsLaw R (s.takeWithin cfg) := by
      unfold State.takeWithin
      split
      · exact h.takeLevels h0 hc ‹_›
      · exact h
      · exact h
    exact hwithin.congr (by simp) (by simp)
  | enters _ _ _ _ => exact h.congr (by simp) (by simp)
  | repeats _ _ _ _ => exact h.congr (by simp) (by simp)
  | refreshes _ _ _ _ _ _ => exact h.congr (by simp) (by simp)
  | leaves _ _ _ _ _ => exact h.congr (by simp) (by simp)
  | sights _ _ _ _ _ => exact h.congr (by simp) (by simp)
  | clears _ => exact h.congr (by simp) (by simp)

/-- One sampling raises a count by one at most (R127). -/
theorem SettledLaw.sampled {s : State} (h : SettledLaw s) (sample : Sample) : CandidateLaw (s.sampled sample) := by
  intro cfg after hc ha j
  obtain ⟨inputs, hi, rfl⟩ := Option.map_eq_some_iff.mp ha
  have hj := h cfg inputs hc hi j
  rw [sampleAll, Vector.get_ofFn, InputState.sample]
  split
  · exact Nat.zero_le _
  · exact hj

/-- After INPUT_ACCEPTED every candidate count is below its settle count (R126, R127). -/
theorem execInputAccepted_settled {s t : State} (h : exec .inputAccepted s = .next t) : SettledLaw t := by
  simp only [exec, execInputAccepted] at h
  split at h <;> cases h
  · exact State.acceptInputs_settled ‹_›
  · rename_i hi
    exact fun cfg inputs _ hi' => absurd (hi.symm.trans hi') (by simp)
  · rename_i hc
    exact fun cfg inputs hc' => absurd (hc.symm.trans hc') (by simp)

/-- Settles O54: every law is kept by each effect, and a tick's sampling touches the input filters alone. -/
theorem stepKeepsTermOutputAndQueueLaws : Obligations.StepKeepsTermOutputAndQueueLaws := by
  refine ⟨fun s t hstep => ⟨?_, ?_⟩, fun s t hstep => ⟨?_, ?_⟩, fun s t hstep hstation hpresence => ?_,
    fun s t hstep => ⟨?_, ?_, ?_⟩⟩
  · exact step_keeps (fun _ _ he h => he.keeps_termLaw h) (fun _ _ _ h => h.congr rfl id rfl) hstep
  · exact step_keeps (fun _ _ he h => he.keeps_outputLaw h) (fun _ _ _ h => h.congr rfl rfl rfl) hstep
  · exact step_keeps (fun _ _ he h => he.keeps_queueLaw h) (fun _ _ _ h => h) hstep
  · exact step_keeps (fun _ _ he h => he.keeps_countLaw h) (fun _ _ _ h => h) hstep
  · have hlaws : PresenceLaws t :=
      step_keeps (fun _ _ he h => he.keeps_presenceLaws h) (fun _ _ _ h => h.congr rfl id rfl (by simp [State.sampled]) rfl)
        hstep ⟨hstation.config_of_busy, hpresence⟩
    exact hlaws.2
  · exact step_keeps (fun _ _ he h => he.keeps_countsLaw (fun _ => Nat.zero_le _) h)
      (fun sample _ hl _ => hl.sampled sample) hstep
  · intro hsettled hnotick
    rcases step_effects hstep with h | ⟨sample, rest, _, hp, _⟩
    · exact h.keep (fun _ _ he h => he.keeps_countsLaw (fun _ => Nat.two_pow_pos _) h) hsettled
    · exact absurd hp (hnotick sample rest)
  · intro rest hp
    unfold step at hstep
    rw [hp] at hstep
    exact execInputAccepted_settled hstep

end Sys2Proof.Machine

namespace Sys2Proof.Machine

/-! ### Equality field by field -/

theorem State.eq_of_fields {s t : State} (power : s.power = t.power) (strap : s.strap = t.strap)
    (tapSelectLow : s.tapSelectLow = t.tapSelectLow) (inputPins : s.inputPins = t.inputPins) (ctl : s.ctl = t.ctl)
    (ldr : s.ldr = t.ldr) (img : s.img = t.img) (eng : s.eng = t.eng) (line : s.line = t.line) (trk : s.trk = t.trk)
    (rx : s.rx = t.rx) (tx : s.tx = t.tx) (inp : s.inp = t.inp) (within : s.within = t.within) (drv : s.drv = t.drv)
    (tap : s.tap = t.tap) (cnt : s.cnt = t.cnt) (lineIn : s.lineIn = t.lineIn) (cfgIn : s.cfgIn = t.cfgIn)
    (contactIn : s.contactIn = t.contactIn) (pending : s.pending = t.pending) : s = t := by
  cases s
  cases t
  simp_all

theorem Image.eq_of_fields {a b : Image} (roster : ∀ n, a.roster.get n = b.roster.get n) (table : a.table = b.table)
    (pool : a.pool = b.pool) (repackPending : a.repackPending = b.repackPending) (own : a.own = b.own) : a = b := by
  have hroster : a.roster = b.roster := Vector.ext fun i hi => roster ⟨i, hi⟩
  cases a
  cases b
  simp_all

/-! ### Posts (R163) -/

/-- What a post does to the tap depends on tap, mask and round count alone. -/
theorem State.post_tap_of_round {s t : State} (kind : EventKind) (a b : Nat) (htap : s.tap = t.tap)
    (hldr : s.ldr = t.ldr) (hround : s.trk.round = t.trk.round) : (s.post kind a b).tap = (t.post kind a b).tap := by
  have ha : s.allows kind = t.allows kind := by simp [State.allows, hldr]
  unfold State.post
  rw [ha, htap, hround]
  split
  · rfl
  · exact htap

theorem State.postAll_tap_of_round (es : List (EventKind × Nat × Nat)) {s t : State} (htap : s.tap = t.tap)
    (hldr : s.ldr = t.ldr) (hround : s.trk.round = t.trk.round) : (s.postAll es).tap = (t.postAll es).tap := by
  induction es generalizing s t with
  | nil => exact htap
  | cons e es ih =>
    exact ih (State.post_tap_of_round _ _ _ htap hldr hround) (by simp [hldr]) (by simp [hround])

/-- Events posted after others are posted behind them. -/
theorem State.postAll_tap_append (es fs : List (EventKind × Nat × Nat)) {s t : State} (htap : t.tap = (s.postAll es).tap)
    (hldr : t.ldr = s.ldr) (hround : t.trk.round = s.trk.round) :
    (t.postAll fs).tap = (s.postAll (es ++ fs)).tap := by
  rw [State.postAll_append]
  exact State.postAll_tap_of_round fs htap (by simpa using hldr) (by simpa using hround)

/-- A change of station state posts its STATE event and nothing else (R122). -/
theorem State.enter_tap (st : Station) (detail : Nat) (s : State) :
    (s.enter st detail).tap = (s.post .state st.code detail).tap :=
  State.post_tap_of_round (s := s.moveTo st) _ _ _ rfl rfl rfl

theorem State.enter_drv (st : Station) (detail : Nat) (s : State) :
    (s.enter st detail).drv = { s.drv with levels := (s.enter st detail).drv.levels } := by
  simp only [State.enter, State.setOutputs, State.post_drv]
  rfl

/-- A station that enters a state posts its STATE event (R122). -/
theorem postsState_enter {s u : State} (st : Station) (detail : Nat) (htap : u.tap = s.tap) :
    PostsState st.code detail s (u.enter st detail) := by
  unfold PostsState
  rw [State.enter_tap]
  exact State.post_tap_of_round _ _ _ htap (by simp) (by simp)

/-- In a state that holds a configuration and does not follow terms every output is at its safe level (R136). -/
theorem safeOutputs_of_levels {station : Station} (hu : station.unconfigured = false) (hf : station.followsTerms = false)
    {cfg : Configuration} {levels : BitVec 8} {held : Option (BitVec 16)}
    (h : levels = outputLevels station (some cfg) held) : SafeOutputs cfg levels := by
  intro i
  rw [h, getLsbD_outputLevels hu, outputLevel, hf]
  rfl

/-! ### What a refresh posts (R9, R12, R13, R83) -/

/-- TAG_CHANGED of a refresh, where the tag differs (R83). -/
def Member.tagEvents (r : Member) (n : StationNo) (tag : BitVec 10) : List (EventKind × Nat × Nat) :=
  if r.tagDiffers tag then [(.tagChanged, n.val, tag.toNat)] else []

/-- POOL_SHORT of a first frame that finds too little space (R12). -/
def allocationEvents (n : StationNo) (p : Placement × Nat) : List (EventKind × Nat × Nat) :=
  if p.1 = .full then [] else [(.poolShort, n.val, p.2)]

/-- POOL_SHORT of a frame that turns FULL into TRUNCATED (R13). -/
def writeEvents (n : StationNo) (entry : Option Entry) (w : Nat) (before : Placement) :
    List (EventKind × Nat × Nat) :=
  match entry with
  | none => []
  | some e => if before = .full ∧ e.length < w then [(.poolShort, n.val, e.length)] else []

/-- The POOL_SHORT events of a refresh: of a first frame's allocation, then of the points written (R12, R13). -/
def State.shortEvents (h : Header) (s : State) : List (EventKind × Nat × Nat) :=
  (if (s.member h.station).placement = .none then
    allocationEvents h.station (placementFor (Config.poolPoints - freePointer s.img.table) (8 * h.width))
  else []) ++
    writeEvents h.station (entryOf (s.tableAfter h) h.station) (8 * h.width) (s.placementAfter h)

/-- The events of one refresh, in the order they are posted (R4). -/
def State.refreshEvents (h : Header) (s : State) : List (EventKind × Nat × Nat) :=
  refreshEvent (s.member h.station).presence h.station ++ (s.member h.station).tagEvents h.station h.tag ++
    s.shortEvents h

theorem State.noteTag_tap (n : StationNo) (before : Member) (tag : BitVec 10) (s : State) :
    (s.noteTag n before tag).tap = (s.postAll (before.tagEvents n tag)).tap := by
  unfold State.noteTag Member.tagEvents
  split
  · exact State.post_tap_of_round _ _ _ rfl rfl rfl
  · rfl

theorem State.allocate_tap (n : StationNo) (wanted : Nat) (s : State) :
    (s.allocate n wanted).tap =
      (s.postAll (allocationEvents n (placementFor (Config.poolPoints - freePointer s.img.table) wanted))).tap := by
  simp only [State.allocate, allocationEvents]
  split
  · rfl
  · exact State.post_tap_of_round _ _ _ rfl rfl rfl

theorem State.writePoints_tap (n : StationNo) (w : Nat) (points : List Byte) (s : State) :
    (s.writePoints n w points).tap =
      (s.postAll (writeEvents n (entryOf s.img.table n) w (s.member n).placement)).tap := by
  unfold State.writePoints writeEvents
  cases entryOf s.img.table n with
  | none => rfl
  | some e =>
    have hshort : ((if w ≤ e.length then Placement.full else .truncated) = .truncated) ↔ e.length < w := by
      split <;> simp <;> omega
    dsimp only
    simp only [hshort]
    split
    · exact State.post_tap_of_round _ _ _ rfl rfl rfl
    · rfl

theorem State.noted_tap (h : Header) (s : State) :
    (s.noted h).tap =
      (s.postAll (refreshEvent (s.member h.station).presence h.station ++
        (s.member h.station).tagEvents h.station h.tag)).tap := by
  unfold State.noted
  rw [State.noteTag_tap]
  refine State.postAll_tap_append _ _ ?_ (by simp) (by simp)
  exact State.postAll_tap_of_round _ rfl rfl rfl

@[simp] theorem State.noted_ldr (h : Header) (s : State) : (s.noted h).ldr = s.ldr := by simp [State.noted]

@[simp] theorem State.noted_trk (h : Header) (s : State) : (s.noted h).trk = s.trk := by simp [State.noted]

@[simp] theorem State.placed_ldr (h : Header) (s : State) : (s.placed h).ldr = s.ldr := by
  unfold State.placed
  split <;> simp

@[simp] theorem State.placed_trk (h : Header) (s : State) : (s.placed h).trk = s.trk := by
  unfold State.placed
  split <;> simp

theorem State.placed_tap (h : Header) (s : State) :
    (s.placed h).tap =
      (s.postAll (refreshEvent (s.member h.station).presence h.station ++
        (s.member h.station).tagEvents h.station h.tag ++
        (if (s.member h.station).placement = .none then
          allocationEvents h.station (placementFor (Config.poolPoints - freePointer s.img.table) (8 * h.width))
        else []))).tap := by
  unfold State.placed
  split
  · rw [State.allocate_tap, State.noted_table]
    exact State.postAll_tap_append _ _ (State.noted_tap h s) (by simp) (by simp)
  · rw [List.append_nil, State.noted_tap]

/-- A refresh posts its events and does nothing else to the tap (R4). -/
theorem State.refreshRecord_tap (h : Header) (points : List Byte) (s : State) :
    (s.refreshRecord h points).tap = (s.postAll (s.refreshEvents h)).tap := by
  rw [State.refreshRecord_eq, State.writePoints_tap, State.placed_table, State.placed_member, State.refreshEvents,
    State.shortEvents, ← List.append_assoc]
  exact State.postAll_tap_append _ _ (State.placed_tap h s) (by simp) (by simp)

theorem State.tableAfter_congr {s t : State} (h : Header) (himg : t.img = s.img) :
    t.tableAfter h = s.tableAfter h := by
  rw [State.tableAfter, State.tableAfter, State.member_congr himg, himg]

theorem State.placementAfter_congr {s t : State} (h : Header) (himg : t.img = s.img) :
    t.placementAfter h = s.placementAfter h := by
  rw [State.placementAfter, State.placementAfter, State.member_congr himg, himg]

/-- What a refresh makes of the image depends on the image alone. -/
theorem State.refreshRecord_img_congr {s t : State} (h : Header) (points : List Byte) (himg : t.img = s.img) :
    (t.refreshRecord h points).img = (s.refreshRecord h points).img := by
  have htable := State.tableAfter_congr h himg
  have hplacement := State.placementAfter_congr h himg
  have hmember := State.member_congr himg
  refine Image.eq_of_fields (fun n => ?_) ?_ ?_ ?_ ?_
  · show (t.refreshRecord h points).member n = (s.refreshRecord h points).member n
    by_cases hn : n = h.station
    · subst hn
      rw [State.refreshRecord_member, State.refreshRecord_member, htable, hplacement, hmember]
    · rw [State.refreshRecord_member_of_ne _ _ _ _ hn, State.refreshRecord_member_of_ne _ _ _ _ hn, hmember]
  · rw [State.refreshRecord_table, State.refreshRecord_table, htable]
  · rw [State.refreshRecord_pool, State.refreshRecord_pool, htable, himg]
  · rw [State.refreshRecord_repackPending, State.refreshRecord_repackPending, himg]
  · rw [State.refreshRecord_own, State.refreshRecord_own, himg]

theorem State.refreshEvents_congr {s t : State} (h : Header) (himg : t.img = s.img) :
    t.refreshEvents h = s.refreshEvents h := by
  rw [State.refreshEvents, State.refreshEvents, State.shortEvents, State.shortEvents, State.member_congr himg,
    State.tableAfter_congr h himg, State.placementAfter_congr h himg, himg]

end Sys2Proof.Machine

namespace Sys2Proof.Machine

/-! ### A frame that is heard (R59–R62, R77, R78) -/

/-- The part with another receiver, walk and counters: what counting and sorting a frame can change before it is handed on. -/
def State.sorted (rx : Receiver) (walk : Walk) (cnt : Counters) (s : State) : State :=
  { s with rx := rx, trk := { s.trk with walk := walk }, cnt := cnt }

@[simp] theorem State.sorted_member (rx : Receiver) (walk : Walk) (cnt : Counters) (s : State) (n : StationNo) :
    (s.sorted rx walk cnt).member n = s.member n := rfl

/-- A forward slip moves the walk and counters other than that of repeats (R61, R90). -/
theorem State.slip_eq_sorted (cfg : Configuration) (cursor : Cursor) (n : StationNo) (s : State) :
    ∃ walk cnt, cnt.repeats = s.cnt.repeats ∧ s.slip cfg cursor n = s.sorted s.rx walk cnt := by
  have htrk : ∃ walk, s.trk.slipTo n = { s.trk with walk := walk } := by
    unfold RoundTracker.slipTo
    split
    · split
      · exact ⟨_, rfl⟩
      · exact ⟨_, rfl⟩
    all_goals exact ⟨_, rfl⟩
  obtain ⟨walk, htrk⟩ := htrk
  unfold State.slip State.passedUnopened
  rw [htrk]
  dsimp only
  repeat' split
  · exact ⟨walk, s.cnt.bumpSlips.bumpMissedTurns, rfl, rfl⟩
  · exact ⟨walk, s.cnt.bumpSlips, rfl, rfl⟩
  · exact ⟨walk, s.cnt.bumpSlips, rfl, rfl⟩

/-- A valid frame at or past the cursor, or before it, is handed on once it is counted and the walk is set (R59–R62). -/
theorem State.countAndSort_opened (cfg : Configuration) (cursor : Cursor) (kind : FrameKind) (h : Header)
    (points : List Byte) (s : State) (hh : h.station ≤ cfg.high) :
    ∃ walk cnt, cnt.repeats = s.cnt.repeats ∧
      s.countAndSort cfg (.opened cursor) (.valid kind h points) =
        State.handOn cfg kind h points (s.sorted s.rx walk cnt) := by
  simp only [State.countAndSort, Walk.counts, if_true, State.sortFrame, not_lt.mpr hh, if_false]
  repeat' split
  · exact ⟨s.trk.walk, s.cnt.bumpGood, rfl, rfl⟩
  · obtain ⟨walk, cnt, hr, he⟩ := State.slip_eq_sorted cfg cursor h.station (s.count Counters.bumpGood)
    exact ⟨walk, cnt, hr, by rw [he]; rfl⟩
  · exact ⟨s.trk.walk, s.cnt.bumpGood.bumpOutOfSlot, rfl, rfl⟩

/-- Handing a frame on takes over no attempt. -/
theorem State.handOn_attempt (cfg : Configuration) (kind : FrameKind) (h : Header) (points : List Byte) (s : State)
    (ha : s.tx.attempt ≠ .takenOver) : (s.handOn cfg kind h points).tx.attempt ≠ .takenOver := by
  unfold State.handOn
  split
  · unfold State.sighting State.noteSighting
    split <;> simp [Sender.enter, Sender.settle, ha]
  · split <;> simpa using ha

/-- Without an attempt taken over nothing is settled (R95). -/
theorem State.settleTakenOver_of_ne (own : Bool) {s : State} (ha : s.tx.attempt ≠ .takenOver) :
    s.settleTakenOver own = s := if_neg ha

/-- A frame heard whole and valid is handed on, counting and sorting done (R59–R62, R77, R78). -/
theorem exec_frameReceived_of_hears {s : State} {cfg : Configuration} {levels : List Level} {cursor : Cursor}
    {body : List Byte} {kind : FrameKind} {h : Header} {points : List Byte}
    (hears : s.hears cfg levels (.opened cursor) body) (hj : judge body = .valid kind h points)
    (hh : h.station ≤ cfg.high) (first : Bool) :
    ∃ rx walk cnt, cnt.repeats = s.cnt.repeats ∧
      exec (.frameReceived levels first) s = .next (State.handOn cfg kind h points (s.sorted rx walk cnt)) := by
  obtain ⟨hcfg, hrec, htake, hmark, hwalk, -, hattempt⟩ := hears
  obtain ⟨walk, cnt, hr, he⟩ := State.countAndSort_opened cfg cursor kind h points
    { s with rx := Receiver.idleAfter dominant } hh
  refine ⟨Receiver.idleAfter dominant, walk, cnt, hr, ?_⟩
  have hexec : exec (.frameReceived levels first) s =
      .next (State.foreignFrame cfg s.receptionWalk body first { s with rx := Receiver.idleAfter dominant }) := by
    simp only [exec, execFrameReceived, hcfg, hrec, htake, hmark, if_true]
    rfl
  rw [hexec, hwalk]
  congr 1
  simp only [State.foreignFrame, hj]
  split
  · rw [State.settleTakenOver_of_ne _ (by exact hattempt), he]
    rfl
  · rw [he, State.settleTakenOver_of_ne]
    · rfl
    · exact State.handOn_attempt _ _ _ _ _ hattempt

theorem State.handOn_data {cfg : Configuration} {h : Header} (hn : h.station ≠ cfg.own) (points : List Byte) (s : State) :
    s.handOn cfg .data h points = s.peerData h points := if_neg hn

theorem State.handOn_leave {cfg : Configuration} {h : Header} (hn : h.station ≠ cfg.own) (points : List Byte)
    (s : State) : s.handOn cfg .leave h points = s.peerLeave h.station := if_neg hn

/-- The sequence of a frame is the one last recorded, of a record that is online, exactly where the sequence check finds no
difference (R82). -/
theorem Member.seqDiff_eq_zero_iff (r : Member) (seq : BitVec 6) :
    r.seqDiff seq = some 0 ↔ r.onLine = true ∧ r.lastSeq = some seq := by
  unfold Member.seqDiff
  split
  · rename_i hon
    cases hl : r.lastSeq with
    | none => simp
    | some last =>
      have hsub : (seq - last).toNat = 0 ↔ last = seq := by bv_omega
      simpa [hon, -BitVec.toNat_sub] using hsub
  · simp_all

/-- Settles O38. -/
theorem repeatOnlyCounts : Obligations.RepeatOnlyCounts := by
  intro s cfg levels first cursor body h points hears hj hh hn hrepeat
  obtain ⟨rx, walk, cnt, hr, he⟩ := exec_frameReceived_of_hears hears hj hh first
  have hpeer : (s.sorted rx walk cnt).peerData h points = (s.sorted rx walk cnt).countRepeat h.station := by
    rcases State.peerData_cases h points (s.sorted rx walk cnt) with ⟨_, hp⟩ | ⟨hheard, hseq, _⟩
    · exact hp
    · rw [ne_eq, Member.seqDiff_eq_zero_iff] at hseq
      rcases hrepeat with hrepeat | hrepeat
      · exact absurd (hrepeat.symm.trans hheard) (by simp)
      · exact absurd hrepeat hseq
  rw [State.handOn_data hn, hpeer] at he
  refine ⟨_, he, ?_, ?_, ?_, fun m hm => ?_⟩
  · apply State.eq_of_fields <;> rfl
  · show min (cnt.repeats + 1) 65535 = _
    rw [hr]
  · rw [State.countRepeat_member, if_pos rfl]
    rfl
  · rw [State.countRepeat_member, if_neg hm]
    rfl

theorem State.peerLeave_img (n : StationNo) (s : State) :
    (s.peerLeave n).img = { s.img with roster := (s.peerLeave n).img.roster } := by
  simp only [State.peerLeave]
  split
  · rfl
  · simp [State.setMember]

/-- Settles O40. -/
theorem peerLeaveDeparts : Obligations.PeerLeaveDeparts := by
  intro s cfg levels first cursor body h points hears hj hh hn r stands
  obtain ⟨rx, walk, cnt, hr, he⟩ := exec_frameReceived_of_hears hears hj hh first
  rw [State.handOn_leave hn] at he
  refine ⟨_, he, ?_, fun m hm => ?_, ?_, fun hstands => ?_, fun hleaves => ?_⟩
  · apply State.eq_of_fields <;> simp [State.sorted]
    exact State.peerLeave_img h.station _
  · rw [State.peerLeave_member, if_neg (fun e => hm e.1)]
    rfl
  · rw [State.peerLeave_cnt]
    exact hr
  · have hid : (s.sorted rx walk cnt).peerLeave h.station = s.sorted rx walk cnt := if_pos hstands
    rw [hid]
    exact ⟨rfl, rfl⟩
  · have hleave : (s.sorted rx walk cnt).peerLeave h.station =
        ((s.sorted rx walk cnt).setMember h.station r.departed).post .memberLeft h.station.val 255 := if_neg hleaves
    rw [hleave]
    refine ⟨?_, State.post_tap_of_round _ _ _ rfl rfl rfl⟩
    rw [State.post_member, State.member_setMember_self]
    exact Member.departed_of_seen fun hu => hleaves (.inl hu)

/-! ### A refresh heard (R4, R82–R84) -/

theorem State.sorted_refreshRecord_tap (h : Header) (points : List Byte) (rx : Receiver) (walk : Walk) (cnt : Counters)
    (s : State) :
    ((s.sorted rx walk cnt).refreshRecord h points).tap = (s.refreshRecord h points).tap := by
  rw [State.refreshRecord_tap, State.refreshRecord_tap, State.refreshEvents_congr (s := s) h rfl]
  exact State.postAll_tap_of_round _ rfl rfl rfl

/-- The missed count grows by the gap between two sequences (R82, R84). -/
theorem Member.noted_missed {r : Member} {h : Header} {last : BitVec 6} (hon : r.onLine = true)
    (hl : r.lastSeq = some last) :
    (r.noted h).missed = min (r.missed + ((64 + h.seq.toNat - last.toNat) % 64 - 1)) 255 := by
  have hsub : (h.seq - last).toNat = (64 + h.seq.toNat - last.toNat) % 64 := by
    have := h.seq.isLt
    have := last.isLt
    rw [BitVec.toNat_sub]
    omega
  simp [Member.noted, Member.refreshed, Member.seqDiff, hon, hl, hsub, add8, saturate, -BitVec.toNat_sub]

theorem Member.noted_missed_of_gone {r : Member} (h : Header) (hon : r.onLine = false) :
    (r.noted h).missed = min r.missed 255 := by
  simp [Member.noted, Member.refreshed, Member.seqDiff, hon, add8, saturate]

/-- The tag comparison finds a difference exactly where a record that is online held another tag (R83). -/
theorem Member.tagDiffers_iff (r : Member) (tag : BitVec 10) :
    r.tagDiffers tag = true ↔ r.onLine = true ∧ r.tag ≠ none ∧ r.tag ≠ some tag := by
  unfold Member.tagDiffers
  cases r.tag <;> simp

/-- Settles O37. -/
theorem peerDataRefreshesRecord : Obligations.PeerDataRefreshesRecord := by
  intro s cfg levels first cursor body h points hears hj hh hn hheard hseq r
  obtain ⟨rx, walk, cnt, hr, he⟩ := exec_frameReceived_of_hears hears hj hh first
  have hpeer : (s.sorted rx walk cnt).peerData h points = (s.sorted rx walk cnt).refreshRecord h points := by
    rcases State.peerData_cases h points (s.sorted rx walk cnt) with ⟨hrepeat, _⟩ | ⟨_, _, hp⟩
    · rw [Member.seqDiff_eq_zero_iff] at hrepeat
      rcases hrepeat with hrepeat | ⟨hon, hlast⟩
      · exact absurd (hrepeat.symm.trans hheard) (by simp)
      · exact absurd hlast (hseq hon)
    · exact hp
  rw [State.handOn_data hn, hpeer] at he
  have hself := State.refreshRecord_member h points (s.sorted rx walk cnt)
  have himg := State.refreshRecord_img_congr (s := s) (t := s.sorted rx walk cnt) h points rfl
  refine ⟨_, he, ?_, himg, State.sorted_refreshRecord_tap .., ?_, fun m hm => ?_,
    (r.noted h).missed, (r.noted h).tagChanges, _, hself, fun last hon hl => Member.noted_missed hon hl,
    fun hgone => ⟨Member.noted_missed_of_gone h hgone, ?_⟩, fun tag hon ht => ?_⟩
  · apply State.eq_of_fields
    case img => apply Image.eq_of_fields <;> simp [State.sorted]
    all_goals simp [State.sorted]
  · rw [State.refreshRecord_cnt]
    exact hr
  · rw [State.refreshRecord_member_of_ne _ _ _ _ hm]
    rfl
  · have hnot : r.tagDiffers h.tag = false := by simp [Member.tagDiffers, hgone]
    simp [Member.noted, hnot]
  · have hdiff := Member.tagDiffers_iff r h.tag
    rw [hon, ht] at hdiff
    by_cases htag : tag = h.tag
    · have hnot : ¬ r.tagDiffers h.tag = true := by simp [hdiff, htag]
      simp [Member.noted, htag, hnot]
    · have hyes : r.tagDiffers h.tag = true := by simp [hdiff, htag]
      simp [Member.noted, htag, hyes, add8, saturate]

/-! ### Where a refresh puts its points (R10–R13) -/

theorem State.tableAfter_of_placed {h : Header} {s : State} (hp : (s.member h.station).placement ≠ .none) :
    s.tableAfter h = s.img.table := if_neg hp

theorem State.placementAfter_of_placed {h : Header} {s : State} (hp : (s.member h.station).placement ≠ .none) :
    s.placementAfter h = (s.member h.station).placement := if_neg hp

/-- The pool after a written frame, point by point (R13). -/
theorem Pool.getLsbD_write (p : Pool) (e : Entry) (w : Nat) (points : List Byte) {i : Nat} (hi : i < 512) :
    ((p.write e w points).levels.getLsbD i =
        if e.offset ≤ i ∧ i < e.offset + min w e.length then pointOf points (i - e.offset) else p.levels.getLsbD i) ∧
      ((p.write e w points).supplied.getLsbD i =
        if e.offset ≤ i ∧ i < e.offset + e.length then decide (i - e.offset < w) else p.supplied.getLsbD i) := by
  simp only [Pool.write, getLsbD_bitsOf, hi, decide_true, Bool.true_and, and_self]

theorem placementFor_of_fits {free wanted : Nat} (h : wanted ≤ free) : placementFor free wanted = (.full, wanted) :=
  if_pos h

theorem placementFor_of_short {free wanted : Nat} (h : ¬ wanted ≤ free) (hf : 0 < free) :
    placementFor free wanted = (.truncated, free) := by
  rw [placementFor, if_neg h, if_pos hf]

theorem placementFor_zero {wanted : Nat} (h : ¬ wanted ≤ 0) : placementFor 0 wanted = (.unplaced, 0) := by
  rw [placementFor, if_neg h, if_neg (Nat.lt_irrefl 0)]

theorem poolPoints_eq : Config.poolPoints = 512 := rfl

/-- The entry of a first frame: what the free space gives it, if anything (R12). -/
theorem State.entryOf_tableAfter_of_first {h : Header} {s : State} (hp : (s.member h.station).placement = .none)
    (he : entryOf s.img.table h.station = none) :
    entryOf (s.tableAfter h) h.station =
      if 512 - freePointer s.img.table = 0 then none
      else some
        { station := h.station, offset := freePointer s.img.table
          length := min (8 * h.width) (512 - freePointer s.img.table) } := by
  have hw := h.width_le
  rw [State.tableAfter, if_pos hp, entryOf_appendEntry_self _ he, placementFor_length, poolPoints_eq]
  have hzero : min (8 * h.width) (512 - freePointer s.img.table) = 0 ↔ 512 - freePointer s.img.table = 0 := by omega
  simp only [hzero]

/-- The table after a first frame (R12). -/
theorem State.tableAfter_of_first {h : Header} {s : State} (hp : (s.member h.station).placement = .none) :
    s.tableAfter h =
      if 512 - freePointer s.img.table = 0 then s.img.table
      else s.img.table ++
        [{ station := h.station, offset := freePointer s.img.table
           length := min (8 * h.width) (512 - freePointer s.img.table) }] := by
  have hw := h.width_le
  rw [State.tableAfter, if_pos hp, appendEntry, placementFor_length, poolPoints_eq]
  have hzero : min (8 * h.width) (512 - freePointer s.img.table) = 0 ↔ 512 - freePointer s.img.table = 0 := by omega
  simp only [hzero]

/-- What a first frame posts after the tag: POOL_SHORT where the space is too small (R12). -/
theorem State.shortEvents_of_first {h : Header} {s : State} (hp : (s.member h.station).placement = .none)
    (he : entryOf s.img.table h.station = none) :
    s.shortEvents h =
      if 8 * h.width ≤ 512 - freePointer s.img.table then []
      else [(.poolShort, h.station.val, 512 - freePointer s.img.table)] := by
  have hw : ¬ 8 * h.width ≤ 0 := by
    have := h.width_le
    omega
  rw [State.shortEvents, State.entryOf_tableAfter_of_first hp he, State.placementAfter, if_pos hp, if_pos hp,
    poolPoints_eq]
  generalize 512 - freePointer s.img.table = free
  by_cases hfits : 8 * h.width ≤ free
  · have hne : free ≠ 0 := by omega
    rw [placementFor_of_fits hfits, if_pos hfits, if_neg hne]
    simp [allocationEvents, writeEvents, hfits]
  by_cases hne : free = 0
  · subst hne
    rw [placementFor_zero hw, if_neg hw]
    simp [allocationEvents, writeEvents]
  · rw [placementFor_of_short hfits (by omega), if_neg hfits, if_neg hne]
    simp [allocationEvents, writeEvents]

/-- What a later frame posts after the tag: POOL_SHORT where it is wider than an entry that held it whole (R13). -/
theorem State.shortEvents_of_placed {h : Header} {s : State} (hp : (s.member h.station).placement ≠ .none) :
    s.shortEvents h =
      writeEvents h.station (entryOf s.img.table h.station) (8 * h.width) (s.member h.station).placement := by
  rw [State.shortEvents, if_neg hp, State.tableAfter_of_placed hp, State.placementAfter_of_placed hp]
  rfl

/-- Where the points of a refresh go (R10–R13). -/
theorem refreshWritesPoints (s : State) (h : Header) (points : List Byte)
    (hfirst : (s.member h.station).placement = .none → entryOf s.img.table h.station = none) :
    let wanted := 8 * h.width
    let free := 512 - freePointer s.img.table
    let t := s.refreshRecord h points
    ((s.member h.station).placement ≠ .none → t.img.table = s.img.table) ∧
    ((s.member h.station).placement = .none →
      (free = 0 → t.img.table = s.img.table ∧ (t.member h.station).placement = .unplaced) ∧
      (0 < free →
        t.img.table = s.img.table ++
          [{ station := h.station, offset := freePointer s.img.table, length := min wanted free }] ∧
        (t.member h.station).placement = if wanted ≤ free then .full else .truncated)) ∧
    ((s.member h.station).placement ≠ .none → entryOf s.img.table h.station = none →
      (t.member h.station).placement = (s.member h.station).placement) := by
  intro wanted free t
  have hw : ¬ wanted ≤ 0 := by
    have := h.width_le
    omega
  have htable : t.img.table = s.tableAfter h := State.refreshRecord_table h points s
  have hmember : t.member h.station = _ := State.refreshRecord_member h points s
  refine ⟨fun hp => htable.trans (State.tableAfter_of_placed hp),
    fun hp => ⟨fun hz => ⟨?_, ?_⟩, fun hpos => ⟨?_, ?_⟩⟩, fun hp he => ?_⟩
  · rw [htable, State.tableAfter_of_first hp, if_pos hz]
  · rw [hmember, State.entryOf_tableAfter_of_first hp (hfirst hp), if_pos hz]
    show s.placementAfter h = _
    rw [State.placementAfter, if_pos hp, poolPoints_eq, show 512 - freePointer s.img.table = 0 from hz,
      placementFor_zero hw]
  · rw [htable, State.tableAfter_of_first hp, if_neg (Nat.pos_iff_ne_zero.mp hpos)]
  · rw [hmember, State.entryOf_tableAfter_of_first hp (hfirst hp), if_neg (Nat.pos_iff_ne_zero.mp hpos)]
    show (if wanted ≤ min wanted free then Placement.full else .truncated) = _
    simp only [Nat.le_min, le_refl, true_and]
  · rw [hmember, State.tableAfter_of_placed hp, he]
    exact State.placementAfter_of_placed hp

/-- Settles O39. -/
theorem refreshWritesPointsAndPosts : Obligations.RefreshWritesPointsAndPosts := by
  refine ⟨fun s h points halloc hplaced => ?_, fun s h points hentry => ?_⟩
  · have hfirst (hp : (s.member h.station).placement = .none) : entryOf s.img.table h.station = none := by
      obtain ⟨-, -, -, hentries, -⟩ := halloc
      rw [entryOf_eq_none_iff]
      intro hmem
      obtain ⟨e, he, hst⟩ := List.mem_map.mp hmem
      exact (hentries e he).1 (hst ▸ hplaced.mp hp)
    obtain ⟨hkeeps, hnew, hunplaced⟩ := refreshWritesPoints s h points hfirst
    have hpool := State.refreshRecord_pool h points s
    have hmember := State.refreshRecord_member h points s
    rw [← State.refreshRecord_table h points s] at hpool hmember
    refine ⟨hkeeps, hnew, hunplaced, fun hnone => ?_, fun e he => ⟨?_, fun i hi => ?_⟩⟩
    · rw [hpool, hnone]
    · rw [hmember, he]
    · have hpool' : (s.refreshRecord h points).img.pool = s.img.pool.write e (8 * h.width) points := by rw [hpool, he]
      obtain ⟨hlevel, hsupplied⟩ := Pool.getLsbD_write s.img.pool e (8 * h.width) points hi
      rw [hpool', hlevel, hsupplied]
      refine ⟨fun hlo hhi hin => ?_, fun hlo hhi hout => ?_, fun hoff => ?_⟩
      · rw [if_pos (by omega), if_pos ⟨hlo, hhi⟩]
        exact ⟨rfl, decide_eq_true hin⟩
      · rw [if_neg (by omega), if_pos ⟨hlo, hhi⟩]
        exact ⟨rfl, decide_eq_false (by omega)⟩
      · rw [if_neg (by omega), if_neg (by omega)]
        exact ⟨rfl, rfl⟩
  · intro r wanted free t
    refine ⟨refreshEvent r.presence h.station, r.tagEvents h.station h.tag, s.shortEvents h,
      State.refreshRecord_tap h points s, ?_, ?_, ?_, ?_, ?_, fun hp => ?_, fun hp he => ?_, fun e hp he => ?_⟩
    · intro hr; rw [hr]; rfl
    · intro hr; rw [hr]; rfl
    · intro hr; rw [hr]; rfl
    · intro hr; rw [hr]; rfl
    · simp only [Member.tagEvents, Member.tagDiffers_iff]
    · exact State.shortEvents_of_first hp (hentry hp)
    · rw [State.shortEvents_of_placed hp, he]
      rfl
    · rw [State.shortEvents_of_placed hp, he]
      rfl

/-! ### A duplicate sighting (R6, R86, R113) -/

theorem State.handOn_own {cfg : Configuration} {h : Header} (hn : h.station = cfg.own) (kind : FrameKind)
    (points : List Byte) (s : State) : s.handOn cfg kind h points = s.sighting cfg kind h := if_pos hn

/-- A sighting either enters DUPLICATE or changes nothing outside the record (R113). -/
theorem State.noteSighting_cases (s : State) :
    ((∃ count, s.ctl.station = .listen count) ∨ s.ctl.station = .active ∨ s.ctl.station = .withdrawn) ∧
        s.noteSighting = s.enter .duplicate detailSighting ∨
      (∀ count, s.ctl.station ≠ .listen count) ∧ s.ctl.station ≠ .active ∧ s.ctl.station ≠ .withdrawn ∧
        s.noteSighting = s := by
  unfold State.noteSighting
  cases hst : s.ctl.station <;> simp

theorem State.noteSighting_drv (s : State) :
    s.noteSighting.drv = { s.drv with levels := s.noteSighting.drv.levels } := by
  rcases s.noteSighting_cases with ⟨_, hs⟩ | ⟨_, _, _, hs⟩ <;> rw [hs]
  exact State.enter_drv ..

/-- Settles O41. -/
theorem sightingEntersDuplicate : Obligations.SightingEntersDuplicate := by
  intro s cfg levels first cursor body kind h points hears hj hn hh r
  obtain ⟨rx, walk, cnt, -, he⟩ := exec_frameReceived_of_hears hears hj (hn ▸ hh) first
  obtain ⟨hcfg, -⟩ := hears
  rw [State.handOn_own hn] at he
  have hsight : (s.sorted rx walk cnt).sighting cfg kind h =
      State.noteSighting ((s.sorted rx walk cnt).setMember cfg.own (r.sighted kind h.cadence)) := rfl
  rw [hsight] at he
  have hown : State.member (State.noteSighting
      ((s.sorted rx walk cnt).setMember cfg.own (r.sighted kind h.cadence))) cfg.own = r.sighted kind h.cadence :=
    (State.member_congr (State.noteSighting_img _) _).trans (State.member_setMember_self ..)
  refine ⟨_, he, ?_, fun m hm => ?_, ?_, ?_, ?_, ?_, fun hst => ?_, fun hst => ?_⟩
  · apply State.eq_of_fields
    case drv => exact State.noteSighting_drv _
    all_goals simp [State.sorted, State.setMember]
  · refine (State.member_congr (State.noteSighting_img _) _).trans ?_
    exact State.member_setMember_of_ne _ _ _ _ hm
  · intro hk hheard
    rw [hown, hk]
    simp [Member.sighted, hheard]
  · intro hk hheard
    rw [hown, hk]
    simp [Member.sighted, hheard]
  · intro hk hu
    rw [hown, hk]
    simp [Member.sighted, Member.departed, hu]
  · intro hk hu
    rw [hown, hk]
    exact Member.departed_of_seen hu
  · rcases State.noteSighting_cases
        ((s.sorted rx walk cnt).setMember cfg.own (r.sighted kind h.cadence)) with ⟨_, hs⟩ | ⟨hl, ha, hw, _⟩
    · rw [hs]
      refine ⟨?_, ?_, ?_, ?_⟩
      · simp [Controller.enter, Station.fault, Station.endsWithdrawal, State.sorted]
      · simp [Sender.enter, Sender.settle, State.sorted]
      · exact safeOutputs_of_levels (station := .duplicate) rfl rfl (held := s.drv.held) (by simp [State.sorted, hcfg])
      · unfold PostsState
        rw [State.enter_tap]
        exact State.post_tap_of_round _ _ _ rfl (by simp) (by simp)
    · rcases hst with ⟨count, hst⟩ | hst | hst
      · exact absurd hst (hl count)
      · exact absurd hst ha
      · exact absurd hst hw
  · rcases State.noteSighting_cases
        ((s.sorted rx walk cnt).setMember cfg.own (r.sighted kind h.cadence)) with ⟨hs, _⟩ | ⟨_, _, _, hs⟩
    · exfalso
      have hs : (∃ count, s.ctl.station = .listen count) ∨ s.ctl.station = .active ∨ s.ctl.station = .withdrawn := hs
      rcases hst with hst | hst <;> simp [hst] at hs
    · rw [hs]
      exact ⟨rfl, rfl, rfl, rfl⟩

end Sys2Proof.Machine

namespace Sys2Proof.Machine

/-! ### The reset condition (R1, R27, R63, R88, R104, R126, R135, R142, R155, R162) -/

theorem Counters.mem_zero {c : Nat} (h : c ∈ Counters.zero.toList) : c = 0 := by
  simpa [Counters.zero, Counters.toList] using h

/-- Settles O5. -/
theorem resetConditionHoldsSpecValues : Obligations.ResetConditionHoldsSpecValues :=
  ⟨rfl, reset_member, rfl, rfl, rfl, rfl, reset_term, rfl, rfl, rfl, rfl, rfl, rfl, rfl, rfl, rfl, rfl, rfl, rfl, rfl, rfl,
    rfl, rfl, rfl, rfl, rfl, rfl, fun _ => rfl, rfl, rfl, rfl, reset_term, rfl, rfl, rfl, rfl, rfl,
    fun _ => Counters.mem_zero, rfl, rfl, rfl, rfl, fun _ => rfl, fun _ => rfl, rfl⟩

/-- The entry to LOADING at the end of the reset condition, in full (R106, R122, R142, R143, R163). -/
theorem State.boot_eq (strap : Strap) (detail : Nat) (s : State) :
    s.boot strap detail =
      s.atLoading strap Controller.reset (Loader.begin false strap)
        { Tap.reset with queue := [loadingEvent (BitVec.ofNat 10 detail)] } Counters.zero := by
  cases strap <;> rfl

theorem Loader.begin_false_eq (strap : Strap) :
    Loader.begin false strap =
      { phase := if strap = .memory then .reading else .waiting, buffer := [], config := none
        command := if strap = .memory then [0x03, 0x00, 0x00] else [], selectLow := decide (strap = .memory) } := by
  cases strap <;> rfl

/-- Settles O6. -/
theorem resetHoldsAndEndsInLoading : Obligations.ResetHoldsAndEndsInLoading := by
  refine ⟨fun s strap => ?_, fun s => ?_⟩
  · intro entered
    have hboot (detail : Nat) : s.boot strap detail = entered (BitVec.ofNat 10 detail) := by
      rw [State.boot_eq, Loader.begin_false_eq]
    refine ⟨?_, fun hp => ?_, fun hp => ?_⟩
    · exact congrArg _ (hboot detailPowerOn)
    · simp only [exec, execResetNRising, hp]
      exact congrArg _ (hboot detailPowerOn)
    · simp only [exec, execResetNRising, hp]
      exact congrArg _ (hboot detailResetPin)
  · have hpower : (if s.power = .off then Power.off else .resetLow) ≠ .running := by split <;> simp
    refine ⟨_, rfl, rfl, hpower, rfl, rfl, rfl, ?_, rfl, fun _ => rfl, fun _ => rfl, ?_⟩
    · simp [State.attn, hpower]
    · simp [State.tapDo, hpower]

/-- Settles O56. -/
theorem resetStateIsLawful : Obligations.ResetStateIsLawful := by
  have hroster : RosterLaws State.reset :=
    (rosterLaws_iff_of_none rfl).mpr ⟨reset_member, rfl⟩
  obtain ⟨hr, hf, ha⟩ := hroster
  have hstation : StationLaw State.reset := by
    refine ⟨rfl, fun h => absurd rfl h, fun _ => ⟨rfl, rfl⟩, fun _ => ⟨rfl, rfl, rfl⟩, ?_, ?_, ?_, fun _ => ⟨rfl, rfl⟩,
      fun _ => ⟨rfl, rfl, rfl⟩⟩
    · rintro (h | h) <;> exact absurd rfl h
    · exact fun h => nomatch h
    · exact fun _ _ h => nomatch h
  have hloss : LossLaw State.reset :=
    ⟨Nat.zero_le _, fun _ => rfl, fun _ _ => rfl, fun _ => by decide, fun h => absurd h (by decide),
      fun h => absurd h (by decide)⟩
  refine ⟨hr, ha, reset_term, .of_levels rfl, .of_reset rfl rfl, ?_, hstation, ?_, hloss, hf,
    ⟨rfl, rfl, rfl⟩, ?_⟩
  · refine ⟨Counters.zero_wide, Nat.zero_le _, fun n => ?_⟩
    rw [reset_member]
    exact ⟨Nat.zero_le _, Nat.zero_le _, Nat.zero_le _⟩
  · exact fun cfg hc => nomatch hc
  · exact fun cfg inputs hc => nomatch hc

/-! ### A load (R107, R144, R145, R151, R153) -/

/-- The first failing check: the one of the least number among those that fail (R151). -/
theorem find_of_least {α : Type} (number : α → Nat) (p : α → Bool) {l : List α}
    (hl : l.Pairwise fun a b => number a < number b) {r : α} (hr : r ∈ l) (hp : p r = true)
    (hleast : ∀ r', number r' < number r → p r' = false) : l.find? p = some r := by
  induction l with
  | nil => cases hr
  | cons a as ih =>
    rw [List.pairwise_cons] at hl
    rcases List.mem_cons.mp hr with rfl | hr
    · simp [hp]
    · have ha : p a = false := hleast a (hl.1 r hr)
      rw [List.find?_cons, ha]
      exact ih hl.2 hr

theorem mem_checkOrder (r : CheckReason) : r ∈ checkOrder := by cases r <;> decide

theorem firstFailure_of_least {img : List Byte} {r : CheckReason} (hr : imageFails img r = true)
    (hleast : ∀ r', r'.number < r.number → imageFails img r' = false) : firstFailure img = some r :=
  find_of_least CheckReason.number (imageFails img) (by decide) (mem_checkOrder r) hr hleast

/-- The own points with some sources' levels changed, point by point (R21, R39, R129). -/
theorem getLsbD_updateOwn (cfg : Configuration) (own : BitVec 64) (f : PointSource → Option Bool) (i : Fin 64) :
    (updateOwn cfg own f).getLsbD i.val =
      if i.val < 8 * cfg.width then (f (cfg.points.get i)).getD (own.getLsbD i.val) else own.getLsbD i.val := by
  have hi : Fin.ofNat 64 i.val = i := Fin.ext (Nat.mod_eq_of_lt i.isLt)
  unfold updateOwn
  rw [getLsbD_bitsOf, decide_eq_true i.isLt, Bool.true_and]
  simp only [Configuration.live, Configuration.source, hi, decide_eq_true_eq]

/-- Time in the loading states, without a configuration: a byte time while READING, the end of CHECKING otherwise (log 2). -/
theorem step_loading {s : State} (hq : s.pending = []) (hp : s.power = .running) (hc : s.ldr.config = none) :
    step s = .next (match s.ldr.phase with
      | .reading => s.presentContacts.readByte
      | .checking => s.presentContacts.enqueue [.checkingComplete s.presentContacts.inputPins]
      | .waiting => s
      | .idle => s) := by
  unfold step
  rw [hq]
  simp only [State.clock, hp, hc]
  rfl

theorem State.reads_of_not_reading {s : State} (h : s.ldr.phase ≠ .reading) : s.reads = false := by
  simp [State.reads, h]

theorem State.configGood_own (raw : BitVec 16) (s : State) :
    (s.configGood raw).img.own =
      some (updateOwn (configurationOf s.ldr.buffer) 0 (initialLevel raw)) := by
  simp [State.configGood]

theorem State.configGood_inp (raw : BitVec 16) (s : State) : (s.configGood raw).inp = some (filtersAt raw) := by
  simp [State.configGood]

/-- Settles O7. -/
theorem loadEndsInListenOrConfigFault : Obligations.LoadEndsInListenOrConfigFault := by
  refine ⟨fun s hq hp hc hphase => ?_, fun s hq hp hc hphase => ?_, fun s hphase => ?_, fun s bytes hphase hlen => ?_,
    fun s raw hphase hpass => ?_, fun s raw r hphase hfail hleast => ?_⟩
  · intro now
    have hstep := step_loading hq hp hc
    rw [hphase] at hstep
    refine ⟨fun hlow => ?_, fun hhigh => ?_⟩
    · have hreads : s.reads = true := by simp [State.reads, hphase, hlow]
      refine ⟨by simp [State.cfgSelectHigh, hreads], fun bit _ => ?_, fun b more hcmd => ⟨?_, fun bit _ => ?_⟩,
        fun hcmd => ⟨fun hlen => ?_, fun hlen => ?_⟩⟩
      · simp [State.cfgClk, hreads, Nat.add_mod]
      · rw [hstep]
        simp [State.readByte, State.presentContacts, hlow, hcmd, now]
      · simp [State.cfgDo, hreads, hcmd]
      · have hmore : ¬ 512 ≤ s.ldr.buffer.length + 1 := by omega
        rw [hstep]
        simp [State.readByte, State.takeByte, State.presentContacts, Config.imageBytes, hlow, hcmd, hmore, now]
      · have hlast : 512 ≤ s.ldr.buffer.length + 1 := by omega
        rw [hstep]
        simp [State.readByte, State.takeByte, State.presentContacts, State.enqueue, Config.imageBytes, hlow, hcmd, hlast,
          hq, now]
    · have hreads : s.reads = false := by simp [State.reads, hhigh]
      refine ⟨by simp [State.cfgSelectHigh, hreads], ?_⟩
      rw [hstep]
      simp [State.readByte, State.presentContacts, hhigh, now]
  · intro pins
    rw [step_loading hq hp hc, hphase]
    simp [State.presentContacts, State.enqueue, hq, pins]
  · have hreads := State.reads_of_not_reading hphase
    exact ⟨by simp [State.cfgSelectHigh, hreads], fun half => by simp [State.cfgClk, hreads],
      fun bit => by simp [State.cfgDo, hreads]⟩
  · exact (congrArg _ rfl).trans (if_pos ⟨hphase, hlen⟩)
  · have hexec : exec (.checkingComplete raw) s = .next (s.configGood raw) := by
      simp only [exec, execCheckingComplete, hphase, (firstFailure_eq_none_iff _).mpr hpass]
    refine ⟨_, hexec, ?_, ?_, ?_, ?_, ?_,
      ⟨_, _, State.configGood_own raw s, State.configGood_inp raw s, fun j => ?_, fun i => ?_⟩, ?_, ?_⟩
    · apply State.eq_of_fields
      case ctl => simp [State.configGood, Controller.enter, Station.fault, Station.endsWithdrawal]
      case drv =>
        simp only [State.configGood, State.enterListen]
        rw [State.enter_drv]
        rfl
      all_goals simp [State.configGood, LineInterface.reset, RoundTracker.startTimer]
    · simp [State.configGood, Receiver.fresh]
    · simp [State.configGood, Receiver.fresh]
    · simp [State.configGood, Receiver.fresh]
    · simp [State.configGood, State.enterListen, State.clearLosses, Sender.enter, Sender.settle]
    · exact Vector.get_ofFn _ j
    · rw [getLsbD_updateOwn]
      generalize (configurationOf s.ldr.buffer).points.get i = source
      by_cases hlive : i.val < 8 * (configurationOf s.ldr.buffer).width
      · rw [if_pos hlive, decide_eq_true hlive]
        cases source <;> simp [initialLevel]
      · rw [if_neg hlive, decide_eq_false hlive]
        simp
    · exact safeOutputs_of_levels (station := .listen 0) rfl rfl (held := some 0) (by simp [State.configGood])
    · exact postsState_enter (.listen 0) detailConfigGood rfl
  · have hexec : exec (.checkingComplete raw) s = .next (s.configBad r) := by
      simp only [exec, execCheckingComplete, hphase, firstFailure_of_least hfail hleast]
    refine ⟨_, hexec, ?_, ?_⟩
    · apply State.eq_of_fields
      case ctl => simp [State.configBad, Controller.enter, Station.fault, Station.endsWithdrawal]
      case tx => simp [State.configBad, Sender.enter, Sender.settle]
      case drv =>
        simp only [State.configBad]
        rw [State.enter_drv, State.enter_levels]
        rfl
      all_goals simp [State.configBad, Loader.reset]
    · exact postsState_enter (.configFault r) _ rfl

end Sys2Proof.Machine

namespace Sys2Proof.Machine

/-! ### Literal resolution (R22, R23) -/

theorem Sense.apply_eq (sense : Sense) (b : Bool) :
    sense.apply b = if b = decide (sense = .trueWhenHigh) then .yes else .no := by
  cases sense <;> cases b <;> rfl

theorem resolve_of_own {cfg : Configuration} {l : Literal} (h : l.station = cfg.own) (snapshot : BitVec 64) (img : Image) :
    resolve cfg snapshot img l = l.sense.apply (snapshot.getLsbD l.point.val) := if_pos h

theorem resolve_of_offline {cfg : Configuration} {l : Literal} (h : l.station ≠ cfg.own) (snapshot : BitVec 64)
    {img : Image} (hoff : (img.roster.get l.station).onLine = false) : resolve cfg snapshot img l = .unknown := by
  rw [resolve, if_neg h, hoff]
  rfl

theorem resolve_without_entry {cfg : Configuration} {l : Literal} (h : l.station ≠ cfg.own) (snapshot : BitVec 64)
    {img : Image} (hnone : entryOf img.table l.station = none) : resolve cfg snapshot img l = .unknown := by
  rw [resolve, if_neg h, hnone]
  exact ite_self _

/-- A literal on another station reads its entry's supplied point while the record is online (R23). -/
theorem resolve_of_entry {cfg : Configuration} {l : Literal} (h : l.station ≠ cfg.own) (snapshot : BitVec 64) {img : Image}
    (hon : (img.roster.get l.station).onLine = true) {e : Entry} (he : entryOf img.table l.station = some e) :
    resolve cfg snapshot img l =
      if l.point.val < e.length ∧ img.pool.supplied.getLsbD (e.offset + l.point.val) = true then
        l.sense.apply (img.pool.levels.getLsbD (e.offset + l.point.val))
      else .unknown := by
  rw [resolve, if_neg h, hon, he]
  rfl

/-- Settles O21. -/
theorem literalsResolve : Obligations.LiteralsResolve := by
  intro cfg snapshot img l level r
  have hlevel (b : Bool) : l.sense.apply b = level b := Sense.apply_eq l.sense b
  refine ⟨fun hown => ?_, fun hpeer hoff => ?_, fun hpeer hnone => resolve_without_entry hpeer snapshot hnone,
    fun hpeer e he => ⟨fun hpoint => ?_, fun hon hp hs => ?_⟩⟩
  · rw [resolve_of_own hown, hlevel]
  · exact resolve_of_offline hpeer snapshot ((Member.onLine_eq_false_iff r).mpr hoff)
  · cases hline : r.onLine with
    | false => exact resolve_of_offline hpeer snapshot hline
    | true =>
      rw [resolve_of_entry hpeer snapshot hline he, if_neg]
      rintro ⟨hp, hs⟩
      rcases hpoint with h | h
      · omega
      · exact absurd (hs.symm.trans h) (by decide)
  · rw [resolve_of_entry hpeer snapshot ((Member.onLine_iff r).mpr hon) he, if_pos ⟨hp, hs⟩, hlevel]

/-! ### The table of a repack (R11, R17) -/

theorem entryOf_rebuildSteps_of_not_mem (roster : Roster) {n : StationNo} {ns : List StationNo} (hn : n ∉ ns)
    (table : List Entry) : entryOf (ns.foldl (rebuildStep roster) table) n = entryOf table n := by
  induction ns generalizing table with
  | nil => rfl
  | cons m ns ih =>
    rw [List.mem_cons, not_or] at hn
    rw [List.foldl_cons, ih hn.2, rebuildStep, entryOf_appendEntry_of_ne _ _ hn.1]

theorem freePointer_le_rebuildSteps (roster : Roster) (ns : List StationNo) (table : List Entry) :
    freePointer table ≤ freePointer (ns.foldl (rebuildStep roster) table) := by
  induction ns generalizing table with
  | nil => exact le_refl _
  | cons n ns ih =>
    refine le_trans ?_ (ih _)
    rw [rebuildStep, freePointer_appendEntry]
    exact Nat.le_add_right _ _

/-- A member taken at a repack holds all it wants, or some or none of it in a table that fills the pool (R12, R17). -/
theorem entryOf_rebuildSteps (roster : Roster) {n : StationNo} (hw : 0 < (roster.get n).width.getD 0) {ns : List StationNo}
    (hns : ns.Nodup) (hn : n ∈ ns) {table : List Entry} (hdisj : entryOf table n = none) :
    match entryOf (ns.foldl (rebuildStep roster) table) n with
    | none => Config.poolPoints ≤ freePointer (ns.foldl (rebuildStep roster) table)
    | some e =>
      e.length = 8 * (roster.get n).width.getD 0 ∨
        (e.length < 8 * (roster.get n).width.getD 0 ∧
          Config.poolPoints ≤ freePointer (ns.foldl (rebuildStep roster) table)) := by
  induction ns generalizing table with
  | nil => cases hn
  | cons m ns ih =>
    rw [List.nodup_cons] at hns
    rw [List.foldl_cons]
    rcases List.mem_cons.mp hn with rfl | hmem
    · rw [entryOf_rebuildSteps_of_not_mem roster hns.1]
      have hle := freePointer_le_rebuildSteps roster ns (rebuildStep roster table n)
      rw [rebuildStep, freePointer_appendEntry] at hle
      rw [rebuildStep, entryOf_appendEntry_self _ hdisj]
      rw [placementFor_length] at hle ⊢
      split_ifs
      · dsimp only
        omega
      · dsimp only
        omega
    · refine ih hns.2 hmem ?_
      rw [rebuildStep, entryOf_appendEntry_of_ne _ _ (by rintro rfl; exact hns.1 hmem)]
      exact hdisj

/-- Settles O17. -/
theorem repackBuildsTable : Obligations.RepackBuildsTable := by
  intro s cfg hc hroster hfield t
  rw [RosterLaw, hc] at hroster
  obtain ⟨-, -, -, hlawful⟩ := hroster
  have hwidth (n : StationNo) (hn : n ≠ cfg.own) (hon : (s.member n).onLine = true) :
      0 < (s.member n).width.getD 0 ∧ (s.member n).width.getD 0 ≤ 8 := by
    have hseen := Member.seen_of_onLine hon
    obtain ⟨-, -, -, -, -, hw⟩ := Member.lawful_of_seen (hlawful n) hseen
    obtain ⟨w, hsome⟩ := Option.isSome_iff_exists.mp ((hfield cfg hc n).1 hn hseen).1
    simpa [hsome, Nat.pos_iff_ne_zero, Nat.one_le_iff_ne_zero] using hw
  have htable : t.img.table = rebuildTable cfg s.img.roster := by rw [State.repack_img]
  have hlaw : TableLaw (rebuildTable cfg s.img.roster) := rebuildTable_law fun n hn hon => (hwidth n hn hon).2
  rw [htable]
  refine ⟨hlaw.contiguous, hlaw.room, rebuildTable_pairwise cfg _, fun e he => mem_rebuildTable he, fun n hn hon => ?_⟩
  have hentry := entryOf_rebuildSteps s.img.roster (hwidth n hn hon).1 (keptPeers_pairwise cfg s.img.roster).nodup
    ((mem_keptPeers ..).mpr ⟨hn, hon⟩) (table := []) rfl
  rw [← rebuildTable_eq] at hentry
  have hplaced : (t.member n).placement = placementIn (rebuildTable cfg s.img.roster) n (s.member n) := by
    rw [State.repack_member]
    rcases (Member.onLine_iff _).mp hon with hp | hp <;> simp [Member.repacked, hp, hn]
  have hroom := hlaw.room
  rw [hplaced, placementIn]
  rw [poolPoints_eq] at hroom hentry
  rcases he : entryOf (rebuildTable cfg s.img.roster) n with _ | e <;> rw [he] at hentry
  · exact ⟨rfl, le_antisymm hroom hentry⟩
  · rcases hentry with hfull | ⟨hshort, hfree⟩
    · exact .inl ⟨hfull, if_pos (le_of_eq hfull.symm)⟩
    · exact .inr ⟨hshort, if_neg (Nat.not_le.mpr hshort), le_antisymm hroom hfree⟩

/-! ### The move of a repack (R18) -/

/-- The entries of a table stand one behind the other, the last of them ending at or below the free pointer (R11). -/
structure Ordered (table : List Entry) : Prop where
  apart : table.Pairwise fun e f => e.offset + e.length ≤ f.offset
  below : ∀ e ∈ table, e.offset + e.length ≤ freePointer table

theorem Ordered.nil : Ordered [] := ⟨.nil, fun _ h => nomatch h⟩

theorem Ordered.appendEntry {table : List Entry} (h : Ordered table) (n : StationNo) (len : Nat) :
    Ordered (appendEntry table n len) := by
  refine ⟨?_, fun e he => ?_⟩
  · unfold Machine.appendEntry
    split
    · exact h.apart
    · exact List.pairwise_append.mpr ⟨h.apart, List.pairwise_singleton _ _, by simpa using h.below⟩
  · rw [freePointer_appendEntry]
    unfold Machine.appendEntry at he
    split at he
    · exact Nat.le_add_right_of_le (h.below e he)
    · rcases List.mem_append.mp he with he | he
      · exact Nat.le_add_right_of_le (h.below e he)
      · rw [List.mem_singleton.mp he]

theorem Ordered.rebuildSteps {table : List Entry} (h : Ordered table) (roster : Roster) (ns : List StationNo) :
    Ordered (ns.foldl (rebuildStep roster) table) := by
  induction ns generalizing table with
  | nil => exact h
  | cons n ns ih => exact ih (h.appendEntry n _)

theorem rebuildTable_ordered (cfg : Configuration) (roster : Roster) : Ordered (rebuildTable cfg roster) :=
  Ordered.nil.rebuildSteps roster _

theorem freePointer_rebuildSteps_room (roster : Roster) (ns : List StationNo) {table : List Entry}
    (h : freePointer table ≤ Config.poolPoints) :
    freePointer (ns.foldl (rebuildStep roster) table) ≤ Config.poolPoints := by
  induction ns generalizing table with
  | nil => exact h
  | cons n ns ih =>
    refine ih ?_
    rw [rebuildStep, freePointer_appendEntry, placementFor_length]
    omega

/-- The entry that holds a pool point, found in a table whose entries stand one behind the other. -/
theorem find_covering {table : List Entry} (h : table.Pairwise fun e f => e.offset + e.length ≤ f.offset) {e : Entry}
    (he : e ∈ table) {i : Nat} (hi : e.offset ≤ i ∧ i < e.offset + e.length) :
    (table.find? fun e => decide (e.offset ≤ i ∧ i < e.offset + e.length)) = some e := by
  induction table with
  | nil => cases he
  | cons f fs ih =>
    rw [List.pairwise_cons] at h
    rcases List.mem_cons.mp he with rfl | he
    · rw [List.find?_cons, decide_eq_true hi]
    · have hapart := h.1 e he
      have hnot : ¬ (f.offset ≤ i ∧ i < f.offset + f.length) := by omega
      rw [List.find?_cons, decide_eq_false hnot]
      exact ih h.2 he

theorem movedFrom_of_entry {old new : List Entry} (hnew : Ordered new) {e : Entry} (he : e ∈ new) {p : Nat}
    (hp : p < e.length) :
    movedFrom old new (e.offset + p) =
      (entryOf old e.station).bind fun o => if p < o.length then some (o.offset + p) else none := by
  rw [movedFrom, find_covering hnew.apart he ⟨Nat.le_add_right _ _, by omega⟩]
  dsimp only
  rw [Nat.add_sub_cancel_left]
  cases entryOf old e.station <;> rfl

theorem movedFrom_outside {old new : List Entry} {i : Nat} (hi : ∀ e ∈ new, i < e.offset ∨ e.offset + e.length ≤ i) :
    movedFrom old new i = none := by
  have hfind : (new.find? fun e => decide (e.offset ≤ i ∧ i < e.offset + e.length)) = none := by
    rw [List.find?_eq_none]
    intro e he
    have := hi e he
    simp only [decide_eq_true_eq]
    omega
  rw [movedFrom, hfind]

theorem Pool.moved_levels (p : Pool) (old new : List Entry) {i : Nat} (hi : i < 512) :
    (p.moved old new).levels.getLsbD i = ((movedFrom old new i).map p.levels.getLsbD).getD false := by
  rw [Pool.moved, getLsbD_bitsOf, decide_eq_true hi, Bool.true_and]

theorem Pool.moved_supplied (p : Pool) (old new : List Entry) {i : Nat} (hi : i < 512) :
    (p.moved old new).supplied.getLsbD i = ((movedFrom old new i).map p.supplied.getLsbD).getD false := by
  rw [Pool.moved, getLsbD_bitsOf, decide_eq_true hi, Bool.true_and]

/-- A point of a new entry takes what its position held in the member's old entry, if that reached so far (R18). -/
theorem movedFrom_of_old {old new : List Entry} (hold : (old.map (·.station)).Nodup) (hnew : Ordered new) {e o : Entry}
    (he : e ∈ new) (ho : o ∈ old) (hst : o.station = e.station) {p : Nat} (hp : p < e.length) (hpo : p < o.length) :
    movedFrom old new (e.offset + p) = some (o.offset + p) := by
  rw [movedFrom_of_entry hnew he hp, ← hst, entryOf_of_mem hold ho]
  exact if_pos hpo

theorem movedFrom_of_no_old {old new : List Entry} (hnew : Ordered new) {e : Entry} (he : e ∈ new) {p : Nat}
    (hp : p < e.length) (hshort : ∀ o ∈ old, o.station = e.station → o.length ≤ p) :
    movedFrom old new (e.offset + p) = none := by
  rw [movedFrom_of_entry hnew he hp]
  rcases ho : entryOf old e.station with _ | o
  · rfl
  · obtain ⟨hmem, hst⟩ := mem_of_entryOf ho
    exact if_neg (Nat.not_lt.mpr (hshort o hmem hst))

/-- Settles O18. -/
theorem repackMovesPoints : Obligations.RepackMovesPoints := by
  intro s cfg _ halloc t
  obtain ⟨-, -, hnodup, -, -⟩ := halloc
  have htable : t.img.table = rebuildTable cfg s.img.roster := by rw [State.repack_img]
  have hpool : t.img.pool = s.img.pool.moved s.img.table t.img.table := by rw [htable, State.repack_img]
  have hordered : Ordered t.img.table := htable ▸ rebuildTable_ordered cfg s.img.roster
  have hroom : freePointer t.img.table ≤ Config.poolPoints :=
    htable ▸ freePointer_rebuildSteps_room s.img.roster _ (Nat.zero_le _)
  rw [poolPoints_eq] at hroom
  have hlevels {i : Nat} (hi : i < 512) := Pool.moved_levels s.img.pool s.img.table t.img.table hi
  have hsupplied {i : Nat} (hi : i < 512) := Pool.moved_supplied s.img.pool s.img.table t.img.table hi
  rw [hpool]
  refine ⟨fun e he p hp => ?_, fun i hi hout => ?_⟩
  · have hbelow := hordered.below e he
    have hi : e.offset + p < 512 := by omega
    rw [hlevels hi, hsupplied hi]
    refine ⟨fun o ho hst hpo => ?_, fun hshort => ?_⟩
    · rw [movedFrom_of_old hnodup hordered he ho hst hp hpo]
      exact ⟨rfl, rfl⟩
    · rw [movedFrom_of_no_old hordered he hp hshort]
      exact ⟨rfl, rfl⟩
  · rw [hlevels hi, hsupplied hi, movedFrom_outside hout]
    exact ⟨rfl, rfl⟩

/-! ### Aging and repack within a close (R7, R8, R15, R16, R19) -/

/-- A repack is due where the flag is set, or where entries stand and no peer is online (R16). -/
theorem State.repackDue_iff (cfg : Configuration) (s : State) :
    s.repackDue cfg = true ↔ s.img.repackPending = true ∨
      (s.img.table ≠ [] ∧ ∀ n, n ≠ cfg.own → (s.member n).presence = .unseen ∨ (s.member n).presence = .absent) := by
  simp only [State.repackDue, Bool.or_eq_true, Bool.and_eq_true, Bool.not_eq_true', List.isEmpty_eq_false_iff, ne_eq,
    List.all_eq_true, List.mem_filter, decide_eq_true_eq, mem_stations, true_and, Member.gone,
    Member.onLine_eq_false_iff]

/-- Whether a repack is due is not a matter of the own points (R16). -/
theorem State.repackDue_congr (cfg : Configuration) {s u : State} (h : u.img = { s.img with own := u.img.own }) :
    u.repackDue cfg = s.repackDue cfg := by
  rw [State.repackDue, State.repackDue]
  simp only [State.member]
  rw [h]

/-- What a repack leaves of the image is not a matter of the own points (R17–R19). -/
theorem State.repackIfDue_img_congr (cfg : Configuration) {s u : State} (h : u.img = { s.img with own := u.img.own }) :
    (u.repackIfDue cfg).img = { (s.repackIfDue cfg).img with own := u.img.own } := by
  unfold State.repackIfDue
  rw [State.repackDue_congr cfg h]
  split
  · rw [State.repack_img, State.repack_img, h]
  · exact h

/-- Acceptances within a close leave aging as it is without them (R7, R131). -/
theorem State.ageAll_takeWithin_img (cfg : Configuration) (cut : Option Cursor) (s : State) :
    ((s.takeWithin cfg).ageAll cfg cut).img =
      { (s.ageAll cfg cut).img with own := ((s.takeWithin cfg).ageAll cfg cut).img.own } := by
  rw [State.ageAll_img, State.ageAll_img, State.takeWithin_img]

/-- Acceptances within a close leave aging and repack as they are without them (R7, R131). -/
theorem State.imageAtEvaluation_eq (cfg : Configuration) (cut : Option Cursor) (s : State) :
    s.imageAtEvaluation cfg cut =
      { ((s.ageAll cfg cut).repackIfDue cfg).img with own := (s.takeWithin cfg).img.own } := by
  rw [State.imageAtEvaluation, State.repackIfDue_img_congr cfg (State.ageAll_takeWithin_img cfg cut s), State.ageAll_img_own]

/-- Roster, table, pool and repack flag after a close are what aging and repack left (R7). -/
theorem State.closeWork_img_eq (cfg : Configuration) (cut : Option Cursor) (s : State) :
    (s.closeWork cfg cut).img =
      { ((s.ageAll cfg cut).repackIfDue cfg).img with own := (s.closeWork cfg cut).img.own } := by
  have h : (s.evaluatedAtClose cfg cut).img =
      { s.imageAtEvaluation cfg cut with own := (s.evaluatedAtClose cfg cut).img.own } := by
    rw [State.evaluatedAtClose, State.evaluateTerms_img]
    rfl
  rw [State.closeWork_img, h, State.imageAtEvaluation_eq]

theorem State.closeWork_member_eq (cfg : Configuration) (cut : Option Cursor) (s : State) (n : StationNo) :
    (s.closeWork cfg cut).member n = ((s.ageAll cfg cut).repackIfDue cfg).member n := by
  rw [State.member, State.closeWork_img_eq]
  rfl

/-- A record that ages at a close (R8). -/
theorem Member.closed_of_ages {grace : Nat} {exempt : Bool} {r : Member}
    (h : r.presence ≠ .unseen ∧ r.heard = false ∧ r.age < 255 ∧ exempt = false) :
    r.closed grace exempt = { r.older grace with heard := false } := by
  have h' : r.presence ≠ .unseen ∧ (!r.heard) = true ∧ r.age < 255 ∧ (!exempt) = true := by simpa using h
  rw [Member.closed, if_pos h']

theorem Member.closed_of_stays {grace : Nat} {exempt : Bool} {r : Member}
    (h : ¬ (r.presence ≠ .unseen ∧ r.heard = false ∧ r.age < 255 ∧ exempt = false)) :
    r.closed grace exempt = { r with heard := false } := by
  have h' : ¬ (r.presence ≠ .unseen ∧ (!r.heard) = true ∧ r.age < 255 ∧ (!exempt) = true) := by simpa using h
  rw [Member.closed, if_neg h']

theorem exemptUnder_eq_true_iff (cut : Option Cursor) (n : StationNo) :
    exemptUnder cut n = true ↔ cut = some .beforeZero ∨ ∃ c, cut = some (.slot c) ∧ c < n := by
  rcases cut with _ | _ | c <;> simp [exemptUnder]

/-- The presence that an age gives, read off (R3). -/
theorem presenceOf_iff (age : Nat) (c : Cadence) (grace : Nat) :
    (presenceOf age c grace = .present ↔ age < c.rounds) ∧
      (presenceOf age c grace = .late ↔ c.rounds ≤ age ∧ age < c.rounds * grace) ∧
      (presenceOf age c grace = .absent ↔ ¬ age < c.rounds ∧ c.rounds * grace ≤ age) := by
  unfold presenceOf
  split_ifs with h1 h2
  · simp [h1]
  · simp [h1, h2, Nat.not_lt.mp h1]
  · simp [h1, h2, Nat.not_lt.mp h2]

/-- Settles O15. -/
theorem closeAgesUnheardRecords : Obligations.CloseAgesUnheardRecords := by
  intro s cfg cut _ hdue t
  have hstands : (s.ageAll cfg cut).repackIfDue cfg = s.ageAll cfg cut := if_neg (by simp [hdue])
  have himg : t.img = { (s.ageAll cfg cut).img with own := t.img.own } := by
    rw [← hstands]
    exact State.closeWork_img_eq cfg cut s
  have hmember (n : StationNo) : t.member n = (s.member n).closed cfg.grace (exemptUnder cut n) := by
    rw [State.closeWork_member_eq, hstands, State.ageAll_member]
  refine ⟨?_, ?_, ?_, fun n => ?_⟩
  · rw [himg, State.ageAll_img_table]
  · rw [himg, State.ageAll_img_pool]
  · rw [himg, State.ageAll_img_repackPending]
  · intro r exempt
    have hexempt : exemptUnder cut n = false ↔ ¬ exempt := by
      rw [← Bool.not_eq_true, exemptUnder_eq_true_iff]
    rw [hmember, ← hexempt]
    refine ⟨fun hages => ?_, Member.closed_of_stays⟩
    rw [Member.closed_of_ages hages]
    refine ⟨presenceOf (r.age + 1) (r.cadence.getD .one) cfg.grace, _, rfl, fun c hc => ?_, fun hp => ?_, fun hp _ hr => ?_,
      fun hp why hr => ?_⟩
    · rw [hc]
      exact presenceOf_iff _ c _
    · exact if_neg hp
    · exact (if_pos hp).trans (by rw [hr]; rfl)
    · exact (if_pos hp).trans (by rw [hr]; rfl)

/-- A repack takes nothing from a record that is not ABSENT but its placement (R17, R19). -/
theorem Member.repacked_of_ne_absent {own n : StationNo} {table : List Entry} {r : Member} (h : r.presence ≠ .absent) :
    r.repacked own table n = { r with placement := (r.repacked own table n).placement } := by
  obtain ⟨presence⟩ := r
  cases presence with
  | absent => exact absurd rfl h
  | unseen => rfl
  | present | late =>
    simp only [Member.repacked]
    split_ifs <;> rfl

/-- Settles O16. -/
theorem dueRepackForgetsAbsent : Obligations.DueRepackForgetsAbsent := by
  refine ⟨fun s cfg cut _ => ?_, fun s cfg n _ => ?_⟩
  · intro aged t
    refine ⟨?_, fun hdue => ?_⟩
    · rw [State.repackDue_iff, State.ageAll_img_repackPending, State.ageAll_img_table]
    · have hrepack : aged.repackIfDue cfg = aged.repack cfg := if_pos hdue
      have himg : t.img = { (aged.repack cfg).img with own := t.img.own } := by
        rw [← hrepack]
        exact State.closeWork_img_eq cfg cut s
      refine ⟨by rw [himg], by rw [himg], fun n => ?_, ?_⟩
      · rw [State.closeWork_member_eq, hrepack]
      · rw [himg, State.repack_img]
  · intro t
    refine ⟨by rw [State.repack_img], fun habsent => ?_, fun hne => ?_⟩
    · rw [State.repack_member, Member.repacked, habsent]
      rfl
    · rw [State.repack_member]
      exact Member.repacked_of_ne_absent hne

end Sys2Proof.Machine

namespace Sys2Proof.Machine

/-! ### Events posted number by number -/

/-- Events posted number by number, one at most for each and under that number, have ascending subjects. -/
theorem pairwise_subjects_flatMap {α : Type} (number : α → Nat) (f : α → List (EventKind × Nat × Nat)) {l : List α}
    (hl : l.Pairwise fun a b => number a < number b)
    (hf : ∀ a, (f a).map (·.2.1) = [] ∨ (f a).map (·.2.1) = [number a]) :
    ((l.flatMap f).map (·.2.1)).Pairwise (· < ·) := by
  have hsub : ((l.flatMap f).map (·.2.1)).Sublist (l.map number) := by
    clear hl
    induction l with
    | nil => exact .slnil
    | cons a as ih =>
      rw [List.flatMap_cons, List.map_append, List.map_cons]
      rcases hf a with h | h <;> rw [h]
      · exact ih.cons _
      · exact ih.cons_cons _
  exact (List.pairwise_map.mpr hl).sublist hsub

theorem mem_ite_singleton {α : Type} {p : Prop} [Decidable p] {a b : α} : a ∈ (if p then [b] else []) ↔ p ∧ a = b := by
  split <;> simp [*]

/-- The INPUT events: one for each acceptance due in a group whose events are enabled (R130). -/
theorem mem_acceptanceEvents (cfg : Configuration) (inputs : Vector InputState 16) (kind : EventKind) (subject detail : Nat) :
    (kind, subject, detail) ∈ acceptanceEvents cfg inputs ↔
      kind = .input ∧ ∃ j : Fin 16, subject = j.val ∧ detail = (!(inputs.get j).accepted).toNat ∧
        (inputs.get j).due (cfg.settleCount j) = true ∧ cfg.inputEvents j = true := by
  simp only [acceptanceEvents, List.mem_flatMap, List.mem_finRange, true_and, mem_ite_singleton, Bool.and_eq_true,
    Prod.mk.injEq]
  constructor
  · rintro ⟨j, ⟨hdue, hen⟩, hk, hs, hd⟩
    exact ⟨hk, j, hs, hd, hdue, hen⟩
  · rintro ⟨hk, j, hs, hd, hdue, hen⟩
    exact ⟨j, ⟨hdue, hen⟩, hk, hs, hd⟩

theorem acceptanceEvents_pairwise (cfg : Configuration) (inputs : Vector InputState 16) :
    ((acceptanceEvents cfg inputs).map (·.2.1)).Pairwise (· < ·) := by
  refine pairwise_subjects_flatMap Fin.val _ (List.pairwise_lt_finRange 16) fun j => ?_
  split
  · exact .inr rfl
  · exact .inl rfl

/-! ### One input at a tick (R127) -/

theorem InputState.sample_of_agrees {raw : Bool} {i : InputState} (h : raw = i.accepted) :
    i.sample raw = { i with count := 0 } := if_pos h

theorem InputState.sample_of_differs {raw : Bool} {i : InputState} (h : raw ≠ i.accepted) :
    i.sample raw = { i with count := i.count + 1 } := if_neg h

theorem InputState.sample_accepted (raw : Bool) (i : InputState) : (i.sample raw).accepted = i.accepted := by
  unfold InputState.sample
  split <;> rfl

/-- An acceptance is due at a tick exactly where the level differs and completes the settle count (R127). -/
theorem InputState.due_sample {settle : Nat} {i : InputState} (h : i.count < settle) (raw : Bool) :
    (i.sample raw).due settle = true ↔ raw ≠ i.accepted ∧ i.count + 1 = settle := by
  rw [InputState.due, decide_eq_true_iff]
  by_cases hraw : raw = i.accepted
  · rw [InputState.sample_of_agrees hraw]
    simp only [hraw, ne_eq, not_true_eq_false, false_and, iff_false]
    omega
  · rw [InputState.sample_of_differs hraw]
    simp only [ne_eq, hraw, not_false_eq_true, true_and]
    omega

theorem InputState.accept_of_due {settle : Nat} {i : InputState} (h : i.due settle = true) :
    i.accept settle = { accepted := !i.accepted, count := 0 } := if_pos h

theorem InputState.accept_of_not_due {settle : Nat} {i : InputState} (h : ¬ i.due settle = true) :
    i.accept settle = i := if_neg h

/-- An input after a tick and the acceptance due at it (R127). -/
theorem InputState.accept_sample {settle : Nat} {i : InputState} (h : i.count < settle) (raw : Bool) :
    (raw = i.accepted → (i.sample raw).accept settle = { i with count := 0 }) ∧
      (raw ≠ i.accepted → ¬ (raw ≠ i.accepted ∧ i.count + 1 = settle) →
        (i.sample raw).accept settle = { i with count := i.count + 1 }) ∧
      (raw ≠ i.accepted ∧ i.count + 1 = settle →
        (i.sample raw).accept settle = { accepted := raw, count := 0 }) := by
  refine ⟨fun hraw => ?_, fun hraw hno => ?_, fun hdue => ?_⟩
  · rw [InputState.accept_of_not_due, InputState.sample_of_agrees hraw]
    exact fun hd => ((InputState.due_sample h raw).mp hd).1 hraw
  · rw [InputState.accept_of_not_due, InputState.sample_of_differs hraw]
    exact fun hd => hno ((InputState.due_sample h raw).mp hd)
  · rw [InputState.accept_of_due ((InputState.due_sample h raw).mpr hdue), InputState.sample_accepted,
      Bool.eq_not_of_ne hdue.1.symm]
    simp

@[simp] theorem sampleAll_get (raw : BitVec 16) (inputs : Vector InputState 16) (j : Fin 16) :
    (sampleAll raw inputs).get j = (inputs.get j).sample (raw.getLsbD j.val) := Vector.get_ofFn _ j

/-! ### A tick and its acceptances (R127, R129, R130) -/

/-- Own points whose sources get no new level stand (R129). -/
theorem updateOwn_of_none {cfg : Configuration} {f : PointSource → Option Bool} (hf : ∀ source, f source = none)
    (own : BitVec 64) : updateOwn cfg own f = own := by
  refine BitVec.eq_of_getLsbD_eq fun i hi => ?_
  have h := getLsbD_updateOwn cfg own f ⟨i, hi⟩
  simpa [hf] using h

/-- A source that is no input with an acceptance due gets no new level (R129). -/
theorem acceptedLevel_of_not_due {cfg : Configuration} {inputs : Vector InputState 16} {source : PointSource}
    (h : ∀ j, source = .input j → ¬ (inputs.get j).due (cfg.settleCount j) = true) :
    acceptedLevel cfg inputs source = none := by
  cases source with
  | input j => exact if_neg (h j rfl)
  | constant | term | none => rfl

/-- Where no acceptance is due, taking the acceptances does nothing (R127). -/
theorem State.acceptInputs_of_none_due {cfg : Configuration} {inputs : Vector InputState 16} {s : State}
    (hi : s.inp = some inputs) (h : ∀ j, ¬ (inputs.get j).due (cfg.settleCount j) = true) :
    s.acceptInputs cfg inputs = { s with within := none } := by
  have hevents : acceptanceEvents cfg inputs = [] := by
    rw [List.eq_nil_iff_forall_not_mem]
    rintro ⟨kind, subject, detail⟩ hmem
    obtain ⟨-, j, -, -, hdue, -⟩ := (mem_acceptanceEvents ..).mp hmem
    exact h j hdue
  have hfilters : (Vector.ofFn fun j => (inputs.get j).accept (cfg.settleCount j)) = inputs :=
    Vector.ext fun i hlt => by
      have := InputState.accept_of_not_due (h ⟨i, hlt⟩)
      simpa [Vector.get] using this
  have hown : (s.img.own.map fun own => updateOwn cfg own (acceptedLevel cfg inputs)) = s.img.own := by
    simp [updateOwn_of_none fun _ => acceptedLevel_of_not_due fun j _ => h j]
  rw [State.acceptInputs, hevents, State.postAll_nil, State.takeLevels, hfilters, hown, ← hi]

/-- A tick that finds no acceptance waiting, and the acceptances due at it (log 9). -/
theorem exec_tick_of_settled {s : State} {cfg : Configuration} {inputs : Vector InputState 16} (hc : s.ldr.config = some cfg)
    (hi : s.inp = some inputs) (h : ∀ j, (inputs.get j).count < cfg.settleCount j) (sample : Sample) :
    exec (.tick sample) s =
      .next { s with inputPins := sample.raw, inp := some (sampleAll sample.raw inputs), within := sample.within } := by
  have hnone (j : Fin 16) : ¬ (inputs.get j).due (cfg.settleCount j) = true := by
    have := h j
    rw [InputState.due, decide_eq_true_iff]
    omega
  have hexec : exec (.tick sample) s = execTick sample s := rfl
  rw [hexec]
  simp only [execTick, hc, hi, State.acceptInputs_of_none_due hi hnone, Option.map_some]

theorem exec_inputAccepted {s : State} {cfg : Configuration} {inputs : Vector InputState 16} (hc : s.ldr.config = some cfg)
    (hi : s.inp = some inputs) : exec .inputAccepted s = .next (s.acceptInputs cfg inputs) := by
  have hexec : exec .inputAccepted s = execInputAccepted s := rfl
  rw [hexec]
  simp only [execInputAccepted, hc, hi]

theorem State.acceptInputs_tap (cfg : Configuration) (inputs : Vector InputState 16) {s t : State} (htap : t.tap = s.tap)
    (hldr : t.ldr = s.ldr) (htrk : t.trk = s.trk) :
    (t.acceptInputs cfg inputs).tap = (s.postAll (acceptanceEvents cfg inputs)).tap := by
  refine State.postAll_tap_of_round _ ?_ ?_ ?_
  · simpa using htap
  · simpa using hldr
  · simp [htrk]

/-- The sixteen inputs after a tick and the acceptances due at it (R127). -/
def settledInputs (cfg : Configuration) (raw : BitVec 16) (inputs : Vector InputState 16) : Vector InputState 16 :=
  Vector.ofFn fun j => ((sampleAll raw inputs).get j).accept (cfg.settleCount j)

theorem settledInputs_get (cfg : Configuration) (raw : BitVec 16) (inputs : Vector InputState 16) (j : Fin 16) :
    (settledInputs cfg raw inputs).get j = ((inputs.get j).sample (raw.getLsbD j.val)).accept (cfg.settleCount j) := by
  rw [settledInputs, Vector.get_ofFn, sampleAll_get]

theorem State.acceptInputs_sampled_inp (cfg : Configuration) (raw : BitVec 16) (inputs : Vector InputState 16) (s : State) :
    (s.acceptInputs cfg (sampleAll raw inputs)).inp = some (settledInputs cfg raw inputs) := State.acceptInputs_inp ..

/-- After an acceptance no candidate count has reached its settle count (R126, R127). -/
theorem InputState.accept_sample_count_lt {settle : Nat} {i : InputState} (h : i.count < settle) (raw : Bool) :
    ((i.sample raw).accept settle).count < settle := by
  by_cases hdue : (i.sample raw).due settle = true
  · rw [InputState.accept_of_due hdue]
    exact lt_of_le_of_lt (Nat.zero_le _) h
  · rw [InputState.accept_of_not_due hdue]
    rw [InputState.due, decide_eq_true_iff] at hdue
    omega

/-- An input that differs at one tick after another counts up, and is accepted when the count completes (R127, R128). -/
theorem count_over_ticks {cfg : Configuration} {j : Fin 16} {run : Instr → State → State}
    (hrun : ∀ c x y, exec c x = .next y → run c x = y) (raws : List (BitVec 16)) {s : State} {inputs : Vector InputState 16}
    (hc : s.ldr.config = some cfg) (hi : s.inp = some inputs) (h : ∀ i, (inputs.get i).count < cfg.settleCount i)
    (hraws : ∀ raw ∈ raws, raw.getLsbD j.val ≠ (inputs.get j).accepted)
    (hlen : (inputs.get j).count + raws.length ≤ cfg.settleCount j) :
    ∃ after, (raws.foldl (fun x raw => run .inputAccepted (run (.tick { raw := raw }) x)) s).inp = some after ∧
      after.get j =
        if (inputs.get j).count + raws.length < cfg.settleCount j then
          { accepted := (inputs.get j).accepted, count := (inputs.get j).count + raws.length }
        else { accepted := !(inputs.get j).accepted, count := 0 } := by
  induction raws generalizing s inputs with
  | nil => exact ⟨inputs, hi, by rw [if_pos]; exacts [rfl, h j]⟩
  | cons raw raws ih =>
    rw [List.forall_mem_cons] at hraws
    obtain ⟨hraw, hraws⟩ := hraws
    rw [List.length_cons] at hlen
    set t : State := { s with inputPins := raw, inp := some (sampleAll raw inputs), within := none } with ht
    have htick : run (.tick { raw := raw }) s = t := hrun _ _ _ (exec_tick_of_settled hc hi h { raw := raw })
    have haccept : run .inputAccepted t = t.acceptInputs cfg (sampleAll raw inputs) :=
      hrun _ _ _ (exec_inputAccepted hc rfl)
    have hinp := State.acceptInputs_sampled_inp cfg raw inputs t
    obtain ⟨-, hcounts, haccepts⟩ := InputState.accept_sample (h j) (raw.getLsbD j.val)
    rw [← settledInputs_get] at hcounts haccepts
    rw [List.foldl_cons, htick, haccept, List.length_cons]
    by_cases hlast : (inputs.get j).count + 1 = cfg.settleCount j
    · have hnil : raws = [] := List.length_eq_zero_iff.mp (by omega)
      subst hnil
      refine ⟨_, hinp, ?_⟩
      rw [haccepts ⟨hraw, hlast⟩, if_neg (by simp only [List.length_nil]; omega), Bool.eq_not_of_ne hraw]
    · have hj := hcounts hraw fun hd => hlast hd.2
      have hsettled (i : Fin 16) : ((settledInputs cfg raw inputs).get i).count < cfg.settleCount i := by
        rw [settledInputs_get]
        exact InputState.accept_sample_count_lt (h i) _
      obtain ⟨final, hfinal, hval⟩ := ih (s := t.acceptInputs cfg (sampleAll raw inputs))
        (by simpa [ht] using hc) hinp hsettled (by rwa [hj]) (by rw [hj]; dsimp only; omega)
      refine ⟨final, hfinal, ?_⟩
      rw [hval, hj]
      dsimp only
      rw [Nat.add_right_comm, Nat.add_assoc _ raws.length]

/-- Settles O43. -/
theorem tickSamplesAndAccepts : Obligations.TickSamplesAndAccepts := by
  refine ⟨fun s cfg inputs own raw place hc hi hown hcount => ?_, fun s cfg inputs j raws hc hi hcount hzero hraws hlen => ?_⟩
  · intro accepts
    set t : State := { s with inputPins := raw, inp := some (sampleAll raw inputs), within := place }
    have hdue (j : Fin 16) : ((sampleAll raw inputs).get j).due (cfg.settleCount j) = true ↔ accepts j := by
      rw [sampleAll_get]
      exact InputState.due_sample (hcount j) _
    have hlevel (j : Fin 16) (hj : accepts j) : (!((sampleAll raw inputs).get j).accepted) = raw.getLsbD j.val := by
      rw [sampleAll_get, InputState.sample_accepted, Bool.eq_not_of_ne hj.1]
    refine ⟨t, t.acceptInputs cfg (sampleAll raw inputs), sampleAll raw inputs,
      settledInputs cfg raw inputs,
      updateOwn cfg own (acceptedLevel cfg (sampleAll raw inputs)), exec_tick_of_settled hc hi hcount _,
      exec_inputAccepted hc rfl, rfl, ?_, fun j => ?_, fun p => ?_,
      acceptanceEvents cfg (sampleAll raw inputs), State.acceptInputs_tap cfg _ rfl rfl rfl, acceptanceEvents_pairwise cfg _,
      fun kind subject detail => ?_⟩
    · apply State.eq_of_fields
      case img => simp [State.takeLevels, t, hown]
      case inp => exact State.acceptInputs_sampled_inp cfg raw inputs t
      all_goals simp [t]
    · rw [settledInputs_get]
      exact InputState.accept_sample (hcount j) _
    · rw [getLsbD_updateOwn]
      refine ⟨fun j hlive hsource hj => ?_, fun hno => ?_⟩
      · rw [if_pos hlive, hsource, acceptedLevel, if_pos ((hdue j).mpr hj), hlevel j hj]
        rfl
      · split
        · rename_i hlive
          have hnone : acceptedLevel cfg (sampleAll raw inputs) (cfg.points.get p) = none :=
            acceptedLevel_of_not_due fun j hsource hd => hno ⟨j, hlive, hsource, (hdue j).mp hd⟩
          rw [hnone]
          rfl
        · rfl
    · rw [mem_acceptanceEvents]
      refine and_congr_right fun _ => exists_congr fun j => and_congr_right fun _ => ?_
      rw [hdue]
      exact ⟨fun ⟨hd, hj, hen⟩ => ⟨hd.trans (by rw [hlevel j hj]), hj, hen⟩,
        fun ⟨hd, hj, hen⟩ => ⟨hd.trans (by rw [hlevel j hj]), hj, hen⟩⟩
  · intro run
    have hrun (c : Instr) (x y : State) (h : exec c x = .next y) : run c x = y := by
      simp only [run, h]
    have h := count_over_ticks hrun raws hc hi hcount hraws (by rw [hzero, Nat.zero_add]; exact hlen)
    rwa [hzero, Nat.zero_add] at h

end Sys2Proof.Machine

namespace Sys2Proof.Machine

/-! ### The levels a transaction shifts out (R156) -/

theorem bitsOfBytes_getD (bytes : List Byte) (i : Nat) :
    (bitsOfBytes bytes).getD i false = (bytes.getD (i / 8) 0).getLsbD (7 - i % 8) := by
  induction bytes generalizing i with
  | nil => simp [bitsOfBytes]
  | cons b bs ih =>
    have hlen : (bitsOfByte b).length = 8 := rfl
    rw [bitsOfBytes]
    by_cases hi : i < 8
    · rw [List.getD_append _ _ _ _ (by omega), Nat.div_eq_of_lt hi, Nat.mod_eq_of_lt hi]
      interval_cases i <;> rfl
    · obtain ⟨k, rfl⟩ := Nat.exists_eq_add_of_le (Nat.not_lt.mp hi)
      rw [List.getD_append_right _ _ _ _ (by omega), hlen, Nat.add_sub_cancel_left, ih, Nat.add_mod_left,
        Nat.add_div_left _ (by decide)]
      rfl

theorem bitsOfBytes_append (as bs : List Byte) : bitsOfBytes (as ++ bs) = bitsOfBytes as ++ bitsOfBytes bs := by
  induction as with
  | nil => rfl
  | cons a as ih => rw [List.cons_append, bitsOfBytes, bitsOfBytes, ih, List.append_assoc]

theorem bitsOfBytes_replicate (n : Nat) : bitsOfBytes (List.replicate n 0) = List.replicate (8 * n) false := by
  induction n with
  | zero => rfl
  | succ n ih =>
    rw [List.replicate_succ, bitsOfBytes, ih, Nat.mul_succ, Nat.add_comm, List.replicate_add]
    rfl

/-- The first bits of a sequence, filled up with 0 behind its end, read place by place. -/
theorem take_append_fill (l : List Bool) (n : Nat) :
    l.take n ++ List.replicate (n - l.length) false = (List.range n).map (l.getD · false) := by
  refine List.ext_getElem (by simp; omega) fun i h1 h2 => ?_
  simp only [List.length_map, List.length_range] at h2
  rw [List.getElem_map, List.getElem_range, List.getElem_append]
  split
  · rename_i hi
    simp only [List.length_take, lt_inf_iff] at hi
    simp [List.getD_eq_getElem?_getD, hi.2]
  · rename_i hi
    simp only [List.length_take, lt_inf_iff, not_and, not_lt] at hi
    simp [List.getD_eq_getElem?_getD, hi h2]

/-- What a held command shifts out: status byte, 00h for each argument byte, response, 00h beyond (R156). -/
theorem Opened.shifted_eq (status : Byte) {o : Opened} {l : Latch} (h : o.latch = some l) (clocks : Nat) :
    o.shifted status clocks = outLevels status o.args.length l.response clocks := by
  have hout : o.output status = bitsOfBytes (status :: (List.replicate o.args.length 0 ++ l.response)) := by
    rw [Opened.output, bitsOfBytes, bitsOfBytes_append, bitsOfBytes_replicate, h, List.append_assoc]
    rfl
  rw [Opened.shifted, take_append_fill, outLevels, hout]
  exact List.map_congr_left fun i _ => bitsOfBytes_getD _ i

/-! ### Held commands at chip select rising (R156) -/

/-- Levels gone out in a transaction. -/
def State.shiftedOut (out : List Level) (s : State) : State := { s with tap := { s.tap with dout := out } }

/-- A held command takes effect at the rising edge, its levels gone out (R156). -/
theorem State.tapCommand_held {s : State} {code : Nat} {args : List Byte} {l : Latch} (h : s.holds (byteOf code) args l)
    (hn : tapArguments (byteOf code).toNat = some args.length) (clocks : Nat) (response : State → List Byte)
    (take : State → Nat) (effect : Latch → State → State) :
    s.tapCommand code args (.rising clocks) response take effect =
      (effect l (s.shiftedOut (s.outAfter args.length l clocks))).endTransaction := by
  rw [State.tapCommand_rising code args clocks response take effect l s hn h, State.transact, Opened.shifted_eq _ rfl, ← h]
  rfl

theorem State.result_endTransaction (r : TapResult) (out : List Level) (s : State) :
    ((s.shiftedOut out).result r).endTransaction = s.ended r out := by
  rw [State.endTransaction_eq]
  rfl

theorem Tap.place_setDout (t : Tap) (e : Event) (out : List Level) :
    ({ t with dout := out } : Tap).place e = { t.place e with dout := out } := by
  by_cases hroom : t.queue.length < Config.queueRoom
  · rw [Tap.place, if_pos hroom, Tap.place, if_pos hroom]
  · rw [Tap.place, if_neg hroom, Tap.place, if_neg hroom]

/-- An event is posted whatever has gone out in the transaction. -/
theorem State.post_shiftedOut (kind : EventKind) (subject detail : Nat) (out : List Level) (s : State) :
    (s.shiftedOut out).post kind subject detail = (s.post kind subject detail).shiftedOut out := by
  have hallows : (s.shiftedOut out).allows kind = s.allows kind := rfl
  unfold State.post
  rw [hallows]
  split
  · exact congrArg (fun tap => { s with tap := tap }) (Tap.place_setDout s.tap _ out)
  · rfl

theorem State.enterListen_shiftedOut (detail : Nat) (out : List Level) (s : State) :
    (s.shiftedOut out).enterListen detail = (s.enterListen detail).shiftedOut out := by
  have hpost := State.post_shiftedOut .state (Station.listen 0).code detail out (s.clearLosses.moveTo (.listen 0))
  exact congrArg State.setOutputs hpost

/-- A held command whose effect is a result on a state `u`, the levels gone out: `u` ended with that result (R156). -/
theorem ended_of_effect {s u : State} {out : List Level} {r : TapResult} (h : s = (u.shiftedOut out).result r) :
    (.next s.endTransaction : Host.Outcome State Fault Refusal) = .next (u.ended r out) := by
  rw [h, State.result_endTransaction]

/-- WITHDRAW at the rising edge of a transaction that holds it (R115, R156). -/
theorem exec_withdraw_held {s : State} {l : Latch} (h : s.holds 0x10 [] l) (clocks : Nat) :
    exec (.withdraw (.rising clocks)) s = .next (s.shiftedOut (s.outAfter 0 l clocks)).withdrawEffect.endTransaction :=
  congrArg _ (State.tapCommand_held h rfl clocks noResponse noTake fun _ s => s.withdrawEffect)

/-- REJOIN at the rising edge of a transaction that holds it (R116, R156). -/
theorem exec_rejoin_held {s : State} {l : Latch} (h : s.holds 0x11 [] l) (clocks : Nat) :
    exec (.rejoin (.rising clocks)) s = .next (s.shiftedOut (s.outAfter 0 l clocks)).rejoinEffect.endTransaction :=
  congrArg _ (State.tapCommand_held h rfl clocks noResponse noTake fun _ s => s.rejoinEffect)

/-- REPACK at the rising edge of a transaction that holds it (R15, R156). -/
theorem exec_repack_held {s : State} {l : Latch} (h : s.holds 0x12 [] l) (clocks : Nat) :
    exec (.repack (.rising clocks)) s = .next (s.shiftedOut (s.outAfter 0 l clocks)).repackEffect.endTransaction :=
  congrArg _ (State.tapCommand_held h rfl clocks noResponse noTake fun _ s => s.repackEffect)

/-- CLEAR COUNTERS at the rising edge of a transaction that holds it (R156, R166). -/
theorem exec_clearCounters_held {s : State} {l : Latch} (h : s.holds 0x13 [] l) (clocks : Nat) :
    exec (.clearCounters (.rising clocks)) s = .next (s.shiftedOut (s.outAfter 0 l clocks)).clearEffect.endTransaction :=
  congrArg _ (State.tapCommand_held h rfl clocks noResponse noTake fun _ s => s.clearEffect)

/-- REJOIN in ACTIVE with a withdrawal pending clears the flag (R116). -/
theorem State.rejoinEffect_of_active {s : State} (hactive : s.ctl.station = .active) (hpending : s.ctl.withdrawalPending = true) :
    s.rejoinEffect = State.result .accepted { s with ctl := { s.ctl with withdrawalPending := false } } := by
  rw [State.rejoinEffect, hactive]
  exact if_pos hpending

theorem State.rejoinEffect_of_withdrawn {s : State} (h : s.ctl.station = .withdrawn) :
    s.rejoinEffect = (s.enterListen detailRejoined).result .accepted := by
  rw [State.rejoinEffect, h]

theorem State.rejoinEffect_of_refused {s : State} (hw : s.ctl.station ≠ .withdrawn)
    (hno : ¬ (s.ctl.station = .active ∧ s.ctl.withdrawalPending = true)) : s.rejoinEffect = s.result .refused := by
  rcases State.rejoinEffect_cases s with ⟨ha, hp, -⟩ | ⟨hst, -⟩ | he
  · exact absurd ⟨ha, hp⟩ hno
  · exact absurd hst hw
  · exact he

/-- A record's counts, the station counters and the lost-event count are 0 after CLEAR COUNTERS (R20, R166). -/
def State.countsCleared (s : State) : State :=
  { s with
    cnt := Counters.zero
    img := { s.img with roster := mapRoster (fun _ r => r.zeroCounts) s.img.roster }
    tap := { s.tap with lostEvents := 0 } }

theorem State.clearEffect_shiftedOut (out : List Level) (s : State) :
    (s.shiftedOut out).clearEffect = (s.countsCleared.shiftedOut out).result .accepted := rfl

/-- Settles O50. -/
theorem stationCommandsTakeEffect : Obligations.StationCommandsTakeEffect := by
  refine ⟨fun s l clocks h => ?_, fun s l clocks h => ?_, fun s l clocks => ?_⟩
  · intro out
    rw [exec_withdraw_held h]
    exact ⟨fun hactive hclear => ended_of_effect (if_pos ⟨hactive, hclear⟩), fun hno => ended_of_effect (if_neg hno)⟩
  · intro out
    rw [exec_rejoin_held h]
    refine ⟨fun hactive hpending => ended_of_effect (State.rejoinEffect_of_active hactive hpending),
      fun cfg hwithdrawn hc => ?_, fun hw hno => ended_of_effect (State.rejoinEffect_of_refused hw hno)⟩
    have heffect := State.rejoinEffect_of_withdrawn (s := s.shiftedOut out) hwithdrawn
    rw [State.enterListen_shiftedOut] at heffect
    refine ⟨s.enterListen detailRejoined, ended_of_effect heffect, ?_, ?_, postsState_enter (.listen 0) detailRejoined rfl⟩
    · apply State.eq_of_fields
      case ctl => simp [State.enterListen, Controller.enter, Station.fault, Station.endsWithdrawal]
      case tx => simp [State.enterListen, State.clearLosses, Sender.enter, Sender.settle]
      case drv => exact State.enter_drv _ _ _
      all_goals simp [State.enterListen]
    · exact safeOutputs_of_levels (station := .listen 0) rfl rfl (held := s.drv.held) (by simp [hc])
  · intro out
    refine ⟨fun h => ?_, fun h => ?_⟩
    · rw [exec_repack_held h]
      exact ⟨fun hconf => ended_of_effect (if_neg (Bool.eq_false_iff.mp hconf)), fun hun => ended_of_effect (if_pos hun)⟩
    · rw [exec_clearCounters_held h]
      exact ⟨s.countsCleared, ended_of_effect (State.clearEffect_shiftedOut out s), rfl, fun _ => Counters.mem_zero,
        fun n => mapRoster_get _ _ n⟩

end Sys2Proof.Machine

namespace Sys2Proof.Machine

/-! ### The copy of a close (R161) -/

/-- A close before the tap stages its copy (R7, R30, R111, R138). -/
def State.beforeCopy (cfg : Configuration) (cut : Option Cursor) (s : State) : State :=
  (State.postAll (s.withInputs cfg (s.closeEvents cfg cut))
    ((s.evaluatedAtClose cfg cut).controlAtClose cfg)).setOutputs

theorem State.closeWork_eq_stageCopy (cfg : Configuration) (cut : Option Cursor) (s : State) :
    s.closeWork cfg cut = (s.beforeCopy cfg cut).stageCopy := rfl

theorem State.stageCopy_of_idle {s : State} (h : s.tap.trans = .idle) :
    s.stageCopy = { s with tap := { s.tap with published := s.copy } } := by
  unfold State.stageCopy
  rw [h]

theorem State.stageCopy_of_opened {s : State} {o : Opened} (h : s.tap.trans = .opened o) :
    s.stageCopy = { s with
      tap := { s.tap with staged := some s.copy }
      cnt := if s.tap.staged = none then s.cnt else s.cnt.bumpSkippedCopies } := by
  unfold State.stageCopy
  rcases hs : s.tap.staged with _ | c <;> rw [h] <;> rfl

@[simp] theorem State.beforeCopy_trans (cfg : Configuration) (cut : Option Cursor) (s : State) :
    (s.beforeCopy cfg cut).tap.trans = s.tap.trans := by simp [State.beforeCopy, State.evaluatedAtClose]

@[simp] theorem State.beforeCopy_staged (cfg : Configuration) (cut : Option Cursor) (s : State) :
    (s.beforeCopy cfg cut).tap.staged = s.tap.staged := by simp [State.beforeCopy, State.evaluatedAtClose]

@[simp] theorem State.beforeCopy_published (cfg : Configuration) (cut : Option Cursor) (s : State) :
    (s.beforeCopy cfg cut).tap.published = s.tap.published := by simp [State.beforeCopy, State.evaluatedAtClose]

@[simp] theorem State.beforeCopy_cnt (cfg : Configuration) (cut : Option Cursor) (s : State) :
    (s.beforeCopy cfg cut).cnt = s.cnt := by simp [State.beforeCopy, State.evaluatedAtClose]

/-- The copy of a close holds what the close leaves under its round count (R161). -/
theorem State.beforeCopy_copy (cfg : Configuration) (cut : Option Cursor) (s : State) :
    (s.beforeCopy cfg cut).copy = { (s.closeWork cfg cut).copy with stamp := s.trk.round } := by
  rw [State.closeWork_eq_stageCopy]
  simp [State.copy, State.beforeCopy, State.evaluatedAtClose]

/-! ### Acceptances within a close (R131) -/

theorem InputState.due_iff (settle : Nat) (i : InputState) : i.due settle = true ↔ settle ≤ i.count := decide_eq_true_iff

theorem InputState.accept_eq (settle : Nat) (i : InputState) :
    i.accept settle = if settle ≤ i.count then { accepted := !i.accepted, count := 0 } else i := by
  by_cases h : settle ≤ i.count
  · rw [if_pos h, InputState.accept_of_due ((InputState.due_iff settle i).mpr h)]
  · rw [if_neg h, InputState.accept_of_not_due fun hd => h ((InputState.due_iff settle i).mp hd)]

theorem State.takeWithin_of_none {cfg : Configuration} {s : State} (h : s.within = none) : s.takeWithin cfg = s := by
  unfold State.takeWithin
  rw [h]

theorem State.takeWithin_of_some {cfg : Configuration} {s : State} {k : Nat} {inputs : Vector InputState 16}
    (h : s.within = some k) (hi : s.inp = some inputs) : s.takeWithin cfg = s.takeLevels cfg inputs := by
  unfold State.takeWithin
  rw [h, hi]

theorem State.takeWithin_without_inputs {cfg : Configuration} {s : State} (hi : s.inp = none) : s.takeWithin cfg = s := by
  unfold State.takeWithin
  rw [hi]
  cases s.within <;> rfl

/-- A live point sourced from an input takes the level that was accepted, if one was (R129). -/
theorem acceptedLevel_getD_of_input (cfg : Configuration) (inputs : Vector InputState 16) (j : Fin 16) (live : Prop)
    [Decidable live] (b : Bool) :
    (if live then (acceptedLevel cfg inputs (.input j)).getD b else b) =
      if live ∧ cfg.settleCount j ≤ (inputs.get j).count then !(inputs.get j).accepted else b := by
  by_cases hlive : live
  · by_cases hdue : cfg.settleCount j ≤ (inputs.get j).count
    · rw [if_pos hlive, if_pos ⟨hlive, hdue⟩, acceptedLevel, if_pos ((InputState.due_iff _ _).mpr hdue)]
      rfl
    · rw [if_pos hlive, if_neg fun h => hdue h.2, acceptedLevel, if_neg fun h => hdue ((InputState.due_iff _ _).mp h)]
      rfl
  · rw [if_neg hlive, if_neg fun h => hlive h.1]

/-- The levels that own points take from acceptances within a close (R129, R131). -/
def State.levelWithin (cfg : Configuration) (s : State) (source : PointSource) : Option Bool :=
  match s.within, s.inp with
  | some _, some inputs => acceptedLevel cfg inputs source
  | some _, none => none
  | none, _ => none

theorem State.levelWithin_of_not_input {cfg : Configuration} {source : PointSource} (h : ∀ j, source ≠ .input j) (s : State) :
    s.levelWithin cfg source = none := by
  unfold State.levelWithin
  split
  · exact acceptedLevel_of_not_due fun j hj => absurd hj (h j)
  all_goals rfl

theorem State.takeWithin_own (cfg : Configuration) (s : State) :
    (s.takeWithin cfg).img.own = s.img.own.map fun own => updateOwn cfg own (s.levelWithin cfg) := by
  rcases hw : s.within with _ | k
  · have hnone : ∀ source, s.levelWithin cfg source = none := fun source => by simp only [State.levelWithin, hw]
    simp [State.takeWithin_of_none hw, updateOwn_of_none hnone]
  · rcases hi : s.inp with _ | inputs
    · have hnone : ∀ source, s.levelWithin cfg source = none := fun source => by simp only [State.levelWithin, hw, hi]
      simp [State.takeWithin_without_inputs hi, updateOwn_of_none hnone]
    · have hlevel : s.levelWithin cfg = acceptedLevel cfg inputs := by
        funext source
        simp only [State.levelWithin, hw, hi]
      rw [State.takeWithin_of_some hw hi, hlevel]
      rfl

/-! ### The stages of a close (R7, R29, R30, R39, R41, R137, R138, R161) -/

theorem staleAfter_iff (terms : Vector TermState 16) (count : Nat) :
    staleAfter terms count = true ↔ ∃ j : TermNo, j.val < count ∧ (terms.get j).byPolicy = true := by
  simp [staleAfter]

/-- The term values as bits (R27). -/
theorem termValues_getLsbD (terms : Vector TermState 16) (j : Nat) :
    (termValues terms).getLsbD j = (decide (j < 16) && (terms.get (Fin.ofNat 16 j)).phase.value) := getLsbD_bitsOf _ _ _

theorem termValues_getLsbD_fin (terms : Vector TermState 16) (j : TermNo) :
    (termValues terms).getLsbD j.val = (terms.get j).phase.value := by
  have hj : Fin.ofNat 16 j.val = j := Fin.ext (Nat.mod_eq_of_lt j.isLt)
  rw [termValues_getLsbD, hj, decide_eq_true j.isLt, Bool.true_and]

/-- A close touches these blocks and the count of skipped copies, and nothing else. -/
theorem State.closeWork_frame (cfg : Configuration) (cut : Option Cursor) (s : State) :
    s.closeWork cfg cut = { s with
      ctl := (s.closeWork cfg cut).ctl, img := (s.closeWork cfg cut).img, eng := (s.closeWork cfg cut).eng
      tx := (s.closeWork cfg cut).tx, inp := (s.closeWork cfg cut).inp, within := (s.closeWork cfg cut).within
      drv := (s.closeWork cfg cut).drv, tap := (s.closeWork cfg cut).tap
      cnt := { s.cnt with skippedCopies := (s.closeWork cfg cut).cnt.skippedCopies } } := by
  apply State.eq_of_fields
  case cnt =>
    rcases State.closeWork_cnt cfg cut s with h | h
    · rw [h]
    · rw [h, Counters.bumpSkippedCopies]
  all_goals simp only [State.closeWork_power, State.closeWork_strap, State.closeWork_tapSelectLow, State.closeWork_inputPins,
    State.closeWork_ldr, State.closeWork_line, State.closeWork_trk, State.closeWork_rx, State.closeWork_lineIn,
    State.closeWork_cfgIn, State.closeWork_contactIn, State.closeWork_pending]

theorem State.closeWork_stale (cfg : Configuration) (cut : Option Cursor) (s : State) :
    (s.closeWork cfg cut).eng.stale = staleAfter (s.closeWork cfg cut).eng.terms cfg.terms.length := by
  rw [State.closeWork_eng]
  rfl

/-- A term after a close: evaluated on the image after aging and repack, own literals on the snapshot (R29, R30). -/
theorem State.closeWork_term (cfg : Configuration) (cut : Option Cursor) (s : State) (j : TermNo) :
    (s.closeWork cfg cut).eng.terms.get j =
      (cfg.terms[j.val]?).elim (s.eng.terms.get j) fun term =>
        (s.eng.terms.get j).next term
          (rawValue term (term.literals.map
            (resolve cfg (s.img.own.getD 0) ((s.ageAll cfg cut).repackIfDue cfg).img))) := by
  rw [State.closeWork_terms, evaluate_get, State.imageAtEvaluation_eq]
  cases cfg.terms[j.val]? <;> rfl

/-- An own point after a close: the new value of its term, the level of an acceptance within the close, or its own (R39, R131). -/
theorem State.closeWork_own_getLsbD (cfg : Configuration) (cut : Option Cursor) {s : State} {own : BitVec 64}
    (hown : s.img.own = some own) :
    ∃ own', (s.closeWork cfg cut).img.own = some own' ∧ ∀ i : Fin 64,
      own'.getLsbD i.val =
        if i.val < 8 * cfg.width then
          ((termLevel (termValues (s.closeWork cfg cut).eng.terms) (cfg.points.get i)).or
            (s.levelWithin cfg (cfg.points.get i))).getD (own.getLsbD i.val)
        else own.getLsbD i.val := by
  refine ⟨_, by rw [State.closeWork_own, State.takeWithin_own, hown]; rfl, fun i => ?_⟩
  rw [getLsbD_updateOwn, getLsbD_updateOwn]
  split
  · cases termLevel (termValues (s.closeWork cfg cut).eng.terms) (cfg.points.get i) <;> rfl
  · rfl

/-- Settles O14. -/
theorem closeStagesFollowOrder : Obligations.CloseStagesFollowOrder := by
  refine ⟨fun s cfg cut hc => ?_, fun s cfg cut hc => ?_⟩
  · intro aged t
    refine ⟨State.closeWork_frame cfg cut s, State.closeWork_img_eq cfg cut s,
      fun j => ⟨State.closeWork_held cfg cut s, termValues_getLsbD _ j⟩, State.closeWork_levels cfg cut s,
      fun hw => ?_, fun k inputs hw hi => ?_, fun own hown => ?_, ?_, fun j => ?_⟩
    · have h := State.takeWithin_of_none (cfg := cfg) hw
      exact ⟨by rw [State.closeWork_inp, h], by rw [State.closeWork_within, h, hw]⟩
    · have h := State.takeWithin_of_some (cfg := cfg) hw hi
      refine ⟨by rw [State.closeWork_within, h]; rfl, _, by rw [State.closeWork_inp, h]; rfl, fun j => ?_⟩
      rw [Vector.get_ofFn]
      exact InputState.accept_eq _ _
    · obtain ⟨own', hown', hbit⟩ := State.closeWork_own_getLsbD cfg cut hown
      refine ⟨own', hown', fun i => ?_⟩
      rw [hbit]
      rcases cfg.points.get i with b | j | j | _
      · rw [State.levelWithin_of_not_input (by simp)]
        exact ite_self _
      · dsimp only [termLevel, Option.none_or]
        rcases hw : s.within with _ | k <;> rcases hi : s.inp with _ | inputs <;>
          simp only [State.levelWithin, hw, hi, Option.getD_none, ite_self]
        exact acceptedLevel_getD_of_input cfg inputs j _ _
      · rw [termLevel, termValues_getLsbD_fin]
        rfl
      · rw [State.levelWithin_of_not_input (by simp)]
        exact ite_self _
    · rw [← staleAfter_iff, ← State.closeWork_stale]
    · have hterm := State.closeWork_term cfg cut s j
      rcases h : cfg.terms[j.val]? with _ | term <;> rw [h] at hterm <;> exact hterm
  · intro t copy
    have hcopy : (s.beforeCopy cfg cut).copy = copy := State.beforeCopy_copy cfg cut s
    refine ⟨fun hidle => ?_, fun o hopened => ?_⟩
    · have ht : t = { s.beforeCopy cfg cut with
          tap := { (s.beforeCopy cfg cut).tap with published := (s.beforeCopy cfg cut).copy } } :=
        State.stageCopy_of_idle (by simpa using hidle)
      rw [ht, hcopy]
      exact ⟨rfl, State.beforeCopy_staged cfg cut s, State.beforeCopy_cnt cfg cut s⟩
    · have ht := State.stageCopy_of_opened (s := s.beforeCopy cfg cut) (by simpa using hopened)
      rw [hcopy, State.beforeCopy_staged, State.beforeCopy_cnt, ← State.closeWork_eq_stageCopy] at ht
      rw [show t = _ from ht]
      exact ⟨State.beforeCopy_published cfg cut s, rfl, fun h => if_pos h, fun h => if_neg h⟩

end Sys2Proof.Machine

namespace Sys2Proof.Machine

/-! ### The events of a close (R9, R17, R19, R38, R111, R130) -/

theorem mem_agingEvent (n : StationNo) (before after : Member) (kind : EventKind) (subject detail : Nat) :
    (kind, subject, detail) ∈ agingEvent n before after ↔
      subject = n.val ∧ detail = after.age ∧
        ((kind = .memberLate ∧ before.presence = .present ∧ after.presence = .late) ∨
          (kind = .memberAbsent ∧ before.presence = .late ∧ after.presence = .absent)) := by
  unfold agingEvent
  rcases before.presence <;> rcases after.presence <;> simp <;> tauto

theorem agingEvent_subjects (n : StationNo) (before after : Member) :
    (agingEvent n before after).map (·.2.1) = [] ∨ (agingEvent n before after).map (·.2.1) = [n.val] := by
  unfold agingEvent
  split
  · exact .inr rfl
  · exact .inr rfl
  · exact .inl rfl

theorem State.mem_agingEvents (cfg : Configuration) (aged s : State) (kind : EventKind) (subject detail : Nat) :
    (kind, subject, detail) ∈ State.agingEvents cfg aged s ↔
      ∃ n : StationNo, n ≠ cfg.own ∧ subject = n.val ∧ detail = (aged.member n).age ∧
        ((kind = .memberLate ∧ (s.member n).presence = .present ∧ (aged.member n).presence = .late) ∨
          (kind = .memberAbsent ∧ (s.member n).presence = .late ∧ (aged.member n).presence = .absent)) := by
  simp [State.agingEvents, mem_agingEvent]

theorem State.agingEvents_pairwise (cfg : Configuration) (aged s : State) :
    ((State.agingEvents cfg aged s).map (·.2.1)).Pairwise (· < ·) :=
  pairwise_subjects_flatMap Fin.val _ (stations_pairwise.sublist List.filter_sublist) fun n => agingEvent_subjects n _ _

/-- The POOL_SHORT events of a repack (R17). -/
def State.repackShorts (cfg : Configuration) (s : State) : List (EventKind × Nat × Nat) :=
  (keptPeers cfg s.img.roster).flatMap fun n => repackEvent (rebuildTable cfg s.img.roster) n (s.member n)

theorem State.repackEvents_eq (cfg : Configuration) (s : State) :
    s.repackEvents cfg =
      s.repackShorts cfg ++
        [(.repacked, (rebuildTable cfg s.img.roster).length, freePointer (rebuildTable cfg s.img.roster))] := rfl

/-- POOL_SHORT for a member of a new table that holds some of its width, or none of it (R17). -/
theorem mem_repackEvent (table : List Entry) (n : StationNo) (r : Member) (kind : EventKind) (subject detail : Nat) :
    (kind, subject, detail) ∈ repackEvent table n r ↔
      kind = .poolShort ∧ subject = n.val ∧
        ((placementIn table n r = .truncated ∧ ∃ e, entryOf table n = some e ∧ detail = e.length) ∨
          (placementIn table n r = .unplaced ∧ detail = 0)) := by
  unfold repackEvent placementIn
  rcases entryOf table n with _ | e
  · simp
  · by_cases hfull : 8 * r.width.getD 0 ≤ e.length <;> simp [hfull]

theorem repackEvent_subjects (table : List Entry) (n : StationNo) (r : Member) :
    (repackEvent table n r).map (·.2.1) = [] ∨ (repackEvent table n r).map (·.2.1) = [n.val] := by
  unfold repackEvent
  split
  · exact .inr rfl
  · exact .inr rfl
  all_goals exact .inl rfl

theorem State.repackShorts_pairwise (cfg : Configuration) (s : State) :
    ((s.repackShorts cfg).map (·.2.1)).Pairwise (· < ·) :=
  pairwise_subjects_flatMap Fin.val _ (keptPeers_pairwise cfg s.img.roster) fun n => repackEvent_subjects _ n _

/-- A kept peer's placement after a repack (R17). -/
theorem State.repack_placement {cfg : Configuration} {s : State} {n : StationNo} (hn : n ≠ cfg.own)
    (hon : (s.member n).onLine = true) :
    ((s.repack cfg).member n).placement = placementIn (rebuildTable cfg s.img.roster) n (s.member n) := by
  rw [State.repack_member]
  rcases (Member.onLine_iff _).mp hon with hp | hp <;> simp [Member.repacked, hp, hn]

theorem State.mem_repackShorts (cfg : Configuration) (s : State) (kind : EventKind) (subject detail : Nat) :
    (kind, subject, detail) ∈ s.repackShorts cfg ↔
      kind = .poolShort ∧ ∃ n : StationNo, n ≠ cfg.own ∧ subject = n.val ∧ (s.member n).onLine = true ∧
        ((((s.repack cfg).member n).placement = .truncated ∧
            ∃ e, entryOf (rebuildTable cfg s.img.roster) n = some e ∧ detail = e.length) ∨
          (((s.repack cfg).member n).placement = .unplaced ∧ detail = 0)) := by
  simp only [State.repackShorts, List.mem_flatMap, mem_keptPeers, mem_repackEvent]
  constructor
  · rintro ⟨n, ⟨hn, hon⟩, hk, hs, hd⟩
    rw [← State.repack_placement hn hon] at hd
    exact ⟨hk, n, hn, hs, hon, hd⟩
  · rintro ⟨hk, n, hn, hs, hon, hd⟩
    rw [State.repack_placement hn hon] at hd
    exact ⟨n, ⟨hn, hon⟩, hk, hs, hd⟩

theorem mem_termEvents (before after : Vector TermState 16) (kind : EventKind) (subject detail : Nat) :
    (kind, subject, detail) ∈ termEvents before after ↔
      ∃ j : TermNo, subject = j.val ∧ detail = (after.get j).byPolicy.toNat ∧
        ((kind = .termOn ∧ (before.get j).phase.value = false ∧ (after.get j).phase.value = true) ∨
          (kind = .termOff ∧ (before.get j).phase.value = true ∧ (after.get j).phase.value = false)) := by
  simp only [termEvents, List.mem_flatMap, List.mem_finRange, true_and]
  refine exists_congr fun j => ?_
  unfold termEvent
  cases (before.get j).phase.value <;> cases (after.get j).phase.value <;> simp <;> tauto

theorem termEvents_pairwise (before after : Vector TermState 16) :
    ((termEvents before after).map (·.2.1)).Pairwise (· < ·) := by
  refine pairwise_subjects_flatMap Fin.val _ (List.pairwise_lt_finRange 16) fun j => ?_
  unfold termEvent
  split
  · exact .inl rfl
  · exact .inr rfl

/-- What the station controller does at a close: it keeps its state without an event, becomes ACTIVE, or returns to LISTEN, with a STATE
event each (R111, R112, R114). -/
theorem State.controlAtClose_cases (cfg : Configuration) (s : State) :
    ((s.controlAtClose cfg).ctl.station.code = s.ctl.station.code ∧ s.controlEvents cfg = []) ∨
      ((∃ count, s.ctl.station = .listen count) ∧ (s.controlAtClose cfg).ctl.station = .active ∧
        s.controlEvents cfg = [(.state, 3, 0x20)]) ∨
      (s.ctl.station = .duplicate ∧ (s.controlAtClose cfg).ctl.station = .listen 0 ∧
        s.controlEvents cfg = [(.state, 2, 0x12)]) := by
  unfold State.controlAtClose State.controlEvents
  rcases hst : s.ctl.station with _ | r | count | _ | _ | _ | r
  case listen =>
    by_cases hgone : (s.member cfg.own).gone = true
    · by_cases hlast : cfg.listen ≤ count + 1
      · refine .inr (.inl ⟨⟨count, rfl⟩, ?_, if_pos ⟨hgone, hlast⟩⟩)
        simp [hgone, hlast, State.moveTo, Controller.enter]
      · refine .inl ⟨?_, if_neg fun h => hlast h.2⟩
        simp [hgone, hlast, Station.code]
    · refine .inl ⟨?_, if_neg fun h => hgone h.1⟩
      simp [hgone, hst]
  case duplicate =>
    by_cases hgone : (s.member cfg.own).gone = true
    · refine .inr (.inr ⟨rfl, ?_, if_pos hgone⟩)
      simp [hgone, State.moveToListen, State.moveTo, Controller.enter]
    · refine .inl ⟨?_, if_neg hgone⟩
      simp [hgone, hst]
  all_goals exact .inl ⟨by rw [hst], rfl⟩

/-- The events of a close's stages, those of aging and repack judged without the acceptances that fall within it (R7, R131). -/
theorem State.closeEvents_eq (cfg : Configuration) (cut : Option Cursor) (s : State) :
    s.closeEvents cfg cut =
      State.agingEvents cfg (s.ageAll cfg cut) s ++
        (if (s.ageAll cfg cut).repackDue cfg then (s.ageAll cfg cut).repackEvents cfg else []) ++
        termEvents s.eng.terms (s.closeWork cfg cut).eng.terms ++ (s.evaluatedAtClose cfg cut).controlEvents cfg := by
  have himg := State.ageAll_takeWithin_img cfg cut s
  have hmember (n : StationNo) : ((s.takeWithin cfg).ageAll cfg cut).member n = (s.ageAll cfg cut).member n := by
    rw [State.member, himg]
    rfl
  have haging : State.agingEvents cfg ((s.takeWithin cfg).ageAll cfg cut) s = State.agingEvents cfg (s.ageAll cfg cut) s := by
    simp only [State.agingEvents, hmember]
  have hrepack : ((s.takeWithin cfg).ageAll cfg cut).repackEvents cfg = (s.ageAll cfg cut).repackEvents cfg := by
    simp only [State.repackEvents, hmember]
    rw [himg]
  rw [State.closeWork_eng]
  simp only [State.closeEvents, haging, hrepack, State.repackDue_congr cfg himg]

theorem State.withInputs_of_none {cfg : Configuration} {s : State} (h : s.within = none)
    (events : List (EventKind × Nat × Nat)) : s.withInputs cfg events = events := by
  unfold State.withInputs
  rw [h]

/-- The INPUT events of acceptances that fall within a close stand so many behind its first as the tick says (R130, R131). -/
theorem State.withInputs_of_some {cfg : Configuration} {s : State} {k : Nat} (h : s.within = some k)
    (events : List (EventKind × Nat × Nat)) :
    s.withInputs cfg events = events.take k ++ s.inp.elim [] (acceptanceEvents cfg) ++ events.drop k := by
  unfold State.withInputs
  rw [h]
  cases s.inp with
  | none => simp
  | some inputs => rfl

theorem State.mem_inputEvents (cfg : Configuration) (s : State) (kind : EventKind) (subject detail : Nat) :
    (kind, subject, detail) ∈ s.inp.elim [] (acceptanceEvents cfg) ↔
      kind = .input ∧ ∃ filters, s.inp = some filters ∧ ∃ j : Fin 16, subject = j.val ∧
        detail = (!(filters.get j).accepted).toNat ∧ cfg.settleCount j ≤ (filters.get j).count ∧
          cfg.inputEvents j = true := by
  cases s.inp with
  | none => simp
  | some inputs => simp [mem_acceptanceEvents, InputState.due_iff]

theorem State.inputEvents_pairwise (cfg : Configuration) (s : State) :
    ((s.inp.elim [] (acceptanceEvents cfg)).map (·.2.1)).Pairwise (· < ·) := by
  cases s.inp with
  | none => exact .nil
  | some inputs => exact acceptanceEvents_pairwise cfg inputs

theorem Station.eq_active_of_code {st : Station} (h : st.code = 3) : st = .active := by
  cases st <;> simp_all [Station.code]

/-- The station controller's event of a close, by the states before and after it (R111, R112, R114, R122). -/
theorem State.controlEvents_at_close (cfg : Configuration) (cut : Option Cursor) (s : State) :
    let t := s.closeWork cfg cut
    let events := (s.evaluatedAtClose cfg cut).controlEvents cfg
    (t.ctl.station = .active ∧ s.ctl.station ≠ .active → events = [(.state, 3, 0x20)]) ∧
      (t.ctl.station = .listen 0 ∧ s.ctl.station = .duplicate → events = [(.state, 2, 0x12)]) ∧
      (t.ctl.station.code = s.ctl.station.code → events = []) ∧
      (events = [] ∨ events = [(.state, 3, 0x20)] ∨ events = [(.state, 2, 0x12)]) := by
  intro t events
  have hcases := State.controlAtClose_cases cfg (s.evaluatedAtClose cfg cut)
  rw [← State.closeWork_ctl, State.evaluatedAtClose_ctl] at hcases
  change (t.ctl.station.code = s.ctl.station.code ∧ events = []) ∨ _ at hcases
  rcases hcases with ⟨hcode, he⟩ | ⟨⟨count, hst⟩, hactive, he⟩ | ⟨hst, hlisten, he⟩
  · refine ⟨fun ⟨ha, hnot⟩ => ?_, fun ⟨hl, hdup⟩ => ?_, fun _ => he, .inl he⟩
    · rw [ha] at hcode
      exact absurd (Station.eq_active_of_code hcode.symm) hnot
    · rw [hl, hdup] at hcode
      exact absurd hcode (by decide)
  · have hdiffer : ¬ t.ctl.station.code = s.ctl.station.code := by
      rw [show t.ctl.station = .active from hactive, hst]
      exact show ¬ 3 = 2 by decide
    exact ⟨fun _ => he, fun ⟨_, hdup⟩ => (nomatch hst.symm.trans hdup), fun hcode => absurd hcode hdiffer, .inr (.inl he)⟩
  · have hdiffer : ¬ t.ctl.station.code = s.ctl.station.code := by
      rw [show t.ctl.station = .listen 0 from hlisten, hst]
      decide
    exact ⟨fun ⟨ha, _⟩ => (nomatch hlisten.symm.trans ha), fun _ => he, fun hcode => absurd hcode hdiffer, .inr (.inr he)⟩

/-- Settles O20. -/
theorem closeEventsStandInOrder : Obligations.CloseEventsStandInOrder := by
  intro s cfg cut hc aged t
  have htable (hdue : aged.repackDue cfg = true) : t.img.table = rebuildTable cfg aged.img.roster := by
    have hrepack : aged.repackIfDue cfg = aged.repack cfg := if_pos hdue
    rw [show t.img = _ from State.closeWork_img_eq cfg cut s, show (s.ageAll cfg cut).repackIfDue cfg = _ from hrepack,
      State.repack_img]
  have hmember (hdue : aged.repackDue cfg = true) (n : StationNo) : t.member n = (aged.repack cfg).member n := by
    have hrepack : aged.repackIfDue cfg = aged.repack cfg := if_pos hdue
    rw [← hrepack]
    exact State.closeWork_member_eq cfg cut s n
  obtain ⟨u, hu, -, htap⟩ := State.closeWork_tap cfg cut s
  obtain ⟨hactive, hlisten, hstays, hthree⟩ := State.controlEvents_at_close cfg cut s
  have hevents : s.closeEvents cfg cut =
      State.agingEvents cfg aged s ++ (if aged.repackDue cfg then aged.repackShorts cfg else []) ++
        (if aged.repackDue cfg then
          [(.repacked, (rebuildTable cfg aged.img.roster).length, freePointer (rebuildTable cfg aged.img.roster))]
        else []) ++
        termEvents s.eng.terms t.eng.terms ++ (s.evaluatedAtClose cfg cut).controlEvents cfg := by
    rw [State.closeEvents_eq, State.repackEvents_eq]
    cases aged.repackDue cfg <;> simp [aged, t]
  refine ⟨State.agingEvents cfg aged s, if aged.repackDue cfg then aged.repackShorts cfg else [],
    if aged.repackDue cfg then
      [(.repacked, (rebuildTable cfg aged.img.roster).length, freePointer (rebuildTable cfg aged.img.roster))]
    else [],
    termEvents s.eng.terms t.eng.terms, (s.evaluatedAtClose cfg cut).controlEvents cfg, s.inp.elim [] (acceptanceEvents cfg),
    s.withInputs cfg (s.closeEvents cfg cut), ?_, ?_, ?_, fun hw => ?_, fun k hw => ?_, State.agingEvents_pairwise cfg aged s,
    State.mem_agingEvents cfg aged s, fun hdue => ?_, fun hdue => ⟨?_, ?_, fun kind subject detail => ?_⟩,
    termEvents_pairwise _ _, mem_termEvents _ _, hactive, hlisten, hstays, hthree,
    State.inputEvents_pairwise cfg s, State.mem_inputEvents cfg s⟩
  · rw [← hu, htap, State.stageCopy_tap_queue]
  · rw [← hu, htap, State.stageCopy_tap_lostEvents]
  · rw [← hu, htap, State.stageCopy_tap_lossMark]
  · rw [State.withInputs_of_none hw, hevents]
  · rw [State.withInputs_of_some hw, hevents]
  · rw [hdue]
    exact ⟨rfl, rfl⟩
  · rw [hdue, htable hdue]
    rfl
  · rw [hdue]
    exact State.repackShorts_pairwise cfg aged
  · rw [hdue, htable hdue]
    simp only [hmember hdue]
    exact State.mem_repackShorts cfg aged kind subject detail

end Sys2Proof.Machine

namespace Sys2Proof.Machine

/-! ### The frame read back (R67, R69, R71, R77, R168) -/

theorem Header.bytes_length (h : Header) : h.bytes.length = 4 := rfl

theorem crcBytes_length (bytes : List Byte) : (crcBytes bytes).length = 2 := rfl

theorem Cadence.ofCode_code (c : Cadence) : Cadence.ofCode (BitVec.ofNat 2 c.code).toNat = c := by cases c <;> rfl

/-- The four header bytes spell the header (R168). -/
theorem Header.ofBytes_bytes (h : Header) (rest : List Byte) : Header.ofBytes (h.bytes ++ rest) = h := by
  obtain ⟨station, kind, cadence, widthCode, ⟨stale, pool⟩, reserved, seq, tag⟩ := h
  have hstation : ((BitVec.ofNat 5 station.val ++ kind).extractLsb' 3 5).toFin = station := by
    rw [BitVec.extractLsb'_append_eq_left]
    exact Fin.ext (Nat.mod_eq_of_lt station.isLt)
  have hkind : (BitVec.ofNat 5 station.val ++ kind).extractLsb' 0 3 = kind := BitVec.extractLsb'_append_eq_right
  set b1 : Byte :=
    BitVec.ofNat 2 cadence.code ++ widthCode ++ BitVec.ofBool stale ++ BitVec.ofBool pool ++ BitVec.ofBool reserved with hb1
  have hcadence : Cadence.ofCode (b1.extractLsb' 6 2).toNat = cadence := by
    rw [hb1, BitVec.extractLsb'_append_eq_of_le (by decide), BitVec.extractLsb'_append_eq_of_le (by decide),
      BitVec.extractLsb'_append_eq_of_le (by decide), BitVec.extractLsb'_append_eq_left, Cadence.ofCode_code]
  have hwidth : b1.extractLsb' 3 3 = widthCode := by
    rw [hb1, BitVec.extractLsb'_append_eq_of_le (by decide), BitVec.extractLsb'_append_eq_of_le (by decide),
      BitVec.extractLsb'_append_eq_of_le (by decide), BitVec.extractLsb'_append_eq_right]
  have hflags : b1.getLsbD 2 = stale ∧ b1.getLsbD 1 = pool ∧ b1.getLsbD 0 = reserved := by
    simp only [hb1, BitVec.getLsbD_append, BitVec.getLsbD_ofBool]
    simp
  have hseq : (seq ++ tag.extractLsb' 8 2).extractLsb' 2 6 = seq := BitVec.extractLsb'_append_eq_left
  have htag : (seq ++ tag.extractLsb' 8 2).extractLsb' 0 2 ++ tag.extractLsb' 0 8 = tag := by
    rw [BitVec.extractLsb'_append_eq_right]
    exact BitVec.extractLsb'_append_extractLsb'
  obtain ⟨hstale, hpool, hreserved⟩ := hflags
  simp only [Header.ofBytes, Header.bytes, List.cons_append, List.getD_cons_zero, List.getD_cons_succ, ← hb1, hstation, hkind,
    hcadence, hwidth, hstale, hpool, hreserved, hseq, htag]

theorem take_frameBody (h : Header) (points : List Byte) :
    (frameBody h points).take ((frameBody h points).length - 2) = h.bytes ++ points := by
  have hlen : (frameBody h points).length - 2 = (h.bytes ++ points).length := by
    rw [frameBody, List.length_append (bs := crcBytes _), crcBytes_length, Nat.add_sub_cancel]
  rw [hlen, frameBody, List.take_left]

theorem drop_frameBody (h : Header) (points : List Byte) :
    (frameBody h points).drop ((frameBody h points).length - 2) = crcBytes (h.bytes ++ points) := by
  have hlen : (frameBody h points).length - 2 = (h.bytes ++ points).length := by
    rw [frameBody, List.length_append (bs := crcBytes _), crcBytes_length, Nat.add_sub_cancel]
  rw [hlen, frameBody, List.drop_left]

/-- A frame built from a valid header is read back as it was built (R71, R77). -/
theorem judge_frameBody (h : Header) (points : List Byte) {kind : FrameKind} (hk : h.validKind = some kind) :
    judge (frameBody h points) = .valid kind h points := by
  have hcheck : checkMatches (frameBody h points) = true := by
    rw [checkMatches, take_frameBody, drop_frameBody, decide_eq_true rfl]
  have hheader : Header.ofBytes (frameBody h points) = h := by
    rw [frameBody, List.append_assoc, Header.ofBytes_bytes]
  have hpoints : bodyPoints (frameBody h points) = points := by
    rw [bodyPoints, take_frameBody]
    rfl
  rw [judge, if_pos hcheck, hheader, hk, hpoints]

theorem Header.validKind_of_code {h : Header} {kind : FrameKind} (hk : h.kind = kind.code) (hr : h.reserved = false) :
    h.validKind = some kind := by
  rw [Header.validKind, hr, hk]
  cases kind <;> rfl

@[simp] theorem pointBytesOf_length (points : BitVec 64) (w : Nat) : (pointBytesOf points w).length = w := by
  simp [pointBytesOf]

/-- The points of a row read back from its point bytes (R70). -/
theorem pointOf_pointBytesOf (points : BitVec 64) {w p : Nat} (hp : p < 8 * w) :
    pointOf (pointBytesOf points w) p = points.getLsbD p := by
  have hbyte : p / 8 < w := by omega
  have hget : (pointBytesOf points w).getD (p / 8) 0 = points.extractLsb' (8 * (p / 8)) 8 := by
    simp [pointBytesOf, List.getD_eq_getElem?_getD, hbyte]
  rw [pointOf, hget, BitVec.getLsbD_extractLsb', decide_eq_true (Nat.mod_lt p (by decide)), Bool.true_and, Nat.div_add_mod]

/-! ### The own slot (R89, R91) -/

theorem State.poolFlag_iff (s : State) :
    s.poolFlag = true ↔ ∃ n, (s.member n).placement = .truncated ∨ (s.member n).placement = .unplaced := by
  simp only [State.poolFlag, List.any_eq_true, mem_stations, true_and]
  refine exists_congr fun n => ?_
  cases (s.member n).placement <;> simp

theorem State.ownHeader_width (kind : FrameKind) (s : State) {cfg : Configuration} (hw : 1 ≤ cfg.width ∧ cfg.width ≤ 8) :
    (s.ownHeader cfg kind).width = cfg.width := by
  simp only [Header.width, State.ownHeader, BitVec.toNat_ofNat]
  omega

/-- The boundary that opens the own slot (R54, R89). -/
theorem exec_slotBoundary_own {s : State} {cfg : Configuration} {cursor : Cursor} (hc : s.ldr.config = some cfg)
    (hwalk : s.trk.walk = .opened cursor) (hnext : cursor.nextNumber = cfg.own.val) (hle : cfg.own ≤ cfg.high)
    (hr : s.ctl.station.receives = true) :
    exec .slotBoundary s =
      .next (State.openOwnSlot cfg
        { s with trk := { s.trk with walk := .opened (.slot cfg.own) }, rx := { s.rx with prevRecessive := true } }) := by
  have hexec : exec .slotBoundary s = execSlotBoundary s := rfl
  have hopen : ¬ cfg.high.val < cursor.nextNumber := by
    rw [hnext]
    exact Nat.not_lt.mpr hle
  have hown : Fin.ofNat 32 cursor.nextNumber = cfg.own := by
    rw [hnext]
    exact Fin.ext (Nat.mod_eq_of_lt cfg.own.isLt)
  rw [hexec, execSlotBoundary, hc, hwalk]
  simp only [State.boundary, if_neg hopen, hown, if_true, State.sawRecessive, hr]
  rfl

/-- Settles O13. -/
theorem ownSlotFillsFrame : Obligations.OwnSlotFillsFrame := by
  intro s cfg cursor hc hrange hwalk hcursor hturn hidle
  obtain ⟨hactive, hdue⟩ := hturn
  obtain ⟨hown, -, -, -, -, -, -, -, hw1, hw8, -⟩ := hrange
  have hnext : cursor.nextNumber = cfg.own.val := by
    rcases hcursor with ⟨rfl, h⟩ | ⟨m, rfl, h⟩
    · exact h.symm
    · exact h.symm
  set u : State :=
    { s with trk := { s.trk with walk := .opened (.slot cfg.own) }, rx := { s.rx with prevRecessive := true } }
  have hexec := exec_slotBoundary_own hc hwalk hnext hown (by rw [hactive]; rfl)
  set kind : FrameKind := if s.ctl.withdrawalPending then .leave else .data
  have hopens : u.openOwnSlot cfg =
      { u.buildFrame cfg kind with ctl := { s.ctl with withdrawalPending := false } } := by
    rw [State.openOwnSlot, if_pos ⟨hactive, hidle⟩]
    by_cases hp : s.ctl.withdrawalPending = true
    · rw [show kind = .leave from if_pos hp]
      exact if_pos hp
    · have hround : dueRound cfg u.trk.round = true := decide_eq_true (hdue.resolve_left hp)
      rw [show kind = .data from if_neg hp, if_neg hp, if_pos hround, ← Bool.eq_false_iff.mpr hp]
      rfl
  refine ⟨_, u.ownHeader cfg kind, u.ownPointBytes cfg kind, frameBody (u.ownHeader cfg kind) (u.ownPointBytes cfg kind), hexec,
    ?_, ?_, judge_frameBody _ _ (Header.validKind_of_code rfl rfl), rfl, rfl, State.ownHeader_width kind u ⟨hw1, hw8⟩, rfl, rfl,
    rfl, rfl, State.poolFlag_iff u, ?_, fun hp own hown p hlt => ?_⟩
  · rw [hopens]
    rfl
  · rw [hopens]
    rfl
  · by_cases hp : s.ctl.withdrawalPending = true
    · rw [show kind = .leave from if_pos hp, if_pos hp]
      rfl
    · rw [show kind = .data from if_neg hp, if_neg hp]
      exact pointBytesOf_length _ _
  · have hdata : u.ownPointBytes cfg kind = pointBytesOf own cfg.width := by
      rw [show kind = .data from if_neg (by simp [hp]), State.ownPointBytes, show u.img.own = some own from hown]
      rfl
    rw [hdata, pointOf_pointBytesOf own hlt]

end Sys2Proof.Machine

end

section
/-! PROOFS of the statements on the configuration image and the terms. -/

-- One proof after another, as in the section above: every thread that elaborates a proof reserves a stack of its own.
set_option Elab.async false

namespace Sys2Proof.Machine

/-! ### The image's bytes (R148–R152, R169) -/

theorem imgAt_lt (img : List Byte) (i : Nat) : imgAt img i < 256 := (img.getD i 0).isLt

theorem Cadence.rounds_ofCode {n : Nat} (h : n ≤ 3) : (Cadence.ofCode n).rounds = 2 ^ n := by
  interval_cases n <;> rfl

/-- The check as sent spells the bytes `a` and `b` (R71). -/
theorem bytes16_eq_pair_iff (c : BitVec 16) (a b : Byte) :
    bytes16 c.toNat = [a, b] ↔ c.toNat = 256 * a.toNat + b.toNat := by
  have hc := c.isLt
  have ha := a.isLt
  have hb := b.isLt
  simp only [bytes16, byteOf, List.cons.injEq, and_true, ← BitVec.toNat_inj, BitVec.toNat_ofNat]
  omega

/-- The last two bytes of a whole image. -/
theorem drop_510_of_length {img : List Byte} (h : img.length = 512) :
    img.drop 510 = [img.getD 510 0, img.getD 511 0] := by
  rw [List.drop_eq_getElem_cons (by omega), List.drop_eq_getElem_cons (by omega), List.drop_eq_nil_of_le (by omega),
    List.getD_eq_getElem _ _ (by omega), List.getD_eq_getElem _ _ (by omega)]

/-! ### What each check compares (R150–R152) -/

theorem imageCheck_fails_iff {img : List Byte} (h : img.length = 512) :
    imageFails img .imageCheck = true ↔ (crc (img.take 510)).toNat ≠ 256 * imgAt img 510 + imgAt img 511 := by
  simp only [imageFails, decide_eq_true_eq, crcBytes, drop_510_of_length h]
  exact not_congr (bytes16_eq_pair_iff _ _ _)

theorem cadence_fails_iff (img : List Byte) :
    imageFails img .cadence = true ↔ 3 < imgAt img 7 ∨ 2 ^ imgAt img 7 ≤ imgAt img 8 := by
  simp only [imageFails, decide_eq_true_eq]
  by_cases h : 3 < imgAt img 7
  · exact iff_of_true (.inl h) (.inl h)
  · rw [Cadence.rounds_ofCode (by omega)]

theorem pointBad_iff (count entry : Nat) :
    pointBad count entry = true ↔
      ¬ (entry ≤ 0x01 ∨ (0x10 ≤ entry ∧ entry ≤ 0x1F) ∨ (0x20 ≤ entry ∧ entry ≤ 0x2F ∧ entry < 0x20 + count)) := by
  simp only [pointBad, Bool.not_eq_true', Bool.or_eq_false_iff, decide_eq_false_iff_not]
  omega

theorem pointMap_fails_iff (img : List Byte) :
    imageFails img .pointMap = true ↔ ∃ i < 8 * imgWidth img,
      ¬ (imgPoint img i ≤ 0x01 ∨ (0x10 ≤ imgPoint img i ∧ imgPoint img i ≤ 0x1F) ∨
        (0x20 ≤ imgPoint img i ∧ imgPoint img i ≤ 0x2F ∧ imgPoint img i < 0x20 + imgTermCount img)) := by
  simp only [imageFails, List.any_eq_true, List.mem_range, pointBad_iff]

theorem termBad_iff (img : List Byte) (j : Nat) :
    termBad img j = true ↔
      2 < imgTerm img j 0 / 16 ∨ 2 < imgTerm img j 0 % 16 ∨ imgTerm img j 4 = 0 ∨ 8 < imgTerm img j 4 ∨
        (imgTerm img j 0 / 16 = 2 ∧ (imgTerm img j 1 = 0 ∨ imgTerm img j 4 < imgTerm img j 1)) := by
  simp only [termBad, Bool.or_eq_true, decide_eq_true_eq, Nat.lt_one_iff, or_assoc]

theorem termShape_fails_iff (img : List Byte) :
    imageFails img .termShape = true ↔ 16 < imgTermCount img ∨ ∃ j < imgTermCount img, termBad img j = true := by
  simp only [imageFails, Bool.or_eq_true, decide_eq_true_eq, List.any_eq_true, List.mem_range]

theorem literalBad_iff (img : List Byte) (j m : Nat) :
    literalBad img j m = true ↔
      imgHigh img < imgTerm img j (5 + 2 * m) ∨ 63 < imgTerm img j (6 + 2 * m) % 128 ∨
        (imgTerm img j (5 + 2 * m) = imgOwn img ∧ 8 * imgWidth img ≤ imgTerm img j (6 + 2 * m) % 128) := by
  simp only [literalBad, Bool.or_eq_true, decide_eq_true_eq, or_assoc]

theorem literalRange_fails_iff (img : List Byte) :
    imageFails img .literalRange = true ↔
      ∃ j < imgTermCount img, ∃ m < imgTerm img j 4, literalBad img j m = true := by
  simp only [imageFails, List.any_eq_true, List.mem_range]

theorem outputSource_fails_iff (img : List Byte) :
    imageFails img .outputSource = true ↔
      ∃ i < 8, imgOutput img i 0 ≠ 255 ∧ imgTermCount img ≤ imgOutput img i 0 := by
  simp only [imageFails, List.any_eq_true, List.mem_range, decide_eq_true_eq]

/-! ### An image that passes -/

section
variable {img : List Byte} (hpass : ∀ r, imageFails img r = false)
include hpass

/-- What a check compares does not hold of an image that passes. -/
theorem not_of_pass {r : CheckReason} {p : Prop} (h : imageFails img r = true ↔ p) : ¬ p :=
  fun hp => absurd (hpass r) (by rw [h.mpr hp]; decide)

theorem stations_of_pass : imgOwn img ≤ imgHigh img ∧ imgHigh img ≤ 31 := by
  have h := not_of_pass hpass (r := .stationRange) decide_eq_true_iff
  omega

theorem rate_of_pass : imgAt img 5 ≤ 3 :=
  Nat.le_of_not_lt (not_of_pass hpass (r := .rate) decide_eq_true_iff)

theorem period_of_pass : 1 ≤ imgAt img 6 :=
  Nat.pos_of_ne_zero (not_of_pass hpass (r := .period) decide_eq_true_iff)

theorem cadence_of_pass : imgAt img 7 ≤ 3 ∧ imgAt img 8 < 2 ^ imgAt img 7 := by
  simpa using not_of_pass hpass (cadence_fails_iff img)

theorem width_of_pass : 1 ≤ imgWidth img ∧ imgWidth img ≤ 8 := by
  have h := not_of_pass hpass (r := .width) decide_eq_true_iff
  omega

theorem grace_of_pass : 2 ≤ imgAt img 9 ∧ imgAt img 9 ≤ 8 := by
  have h := not_of_pass hpass (r := .grace) decide_eq_true_iff
  omega

theorem listen_of_pass : 2 ≤ imgAt img 10 ∧ imgAt img 10 ≤ 16 := by
  have h := not_of_pass hpass (r := .listenRange) decide_eq_true_iff
  omega

theorem point_of_pass {i : Nat} (h : i < 8 * imgWidth img) :
    imgPoint img i ≤ 0x01 ∨ (0x10 ≤ imgPoint img i ∧ imgPoint img i ≤ 0x1F) ∨
      (0x20 ≤ imgPoint img i ∧ imgPoint img i ≤ 0x2F ∧ imgPoint img i < 0x20 + imgTermCount img) := by
  by_contra hbad
  exact not_of_pass hpass (pointMap_fails_iff img) ⟨i, h, hbad⟩

theorem termCount_of_pass : imgTermCount img ≤ 16 :=
  Nat.le_of_not_lt fun h => not_of_pass hpass (termShape_fails_iff img) (.inl h)

/-- A judged term record has a kind, a policy, a literal count and a k that R150 allows. -/
theorem term_of_pass {j : Nat} (h : j < imgTermCount img) :
    imgTerm img j 0 / 16 ≤ 2 ∧ imgTerm img j 0 % 16 ≤ 2 ∧ 1 ≤ imgTerm img j 4 ∧ imgTerm img j 4 ≤ 8 ∧
      (imgTerm img j 0 / 16 = 2 → 1 ≤ imgTerm img j 1 ∧ imgTerm img j 1 ≤ imgTerm img j 4) := by
  have hbad : ¬ termBad img j = true := fun hb => not_of_pass hpass (termShape_fails_iff img) (.inr ⟨j, h, hb⟩)
  rw [termBad_iff] at hbad
  omega

theorem literal_of_pass {j m : Nat} (hj : j < imgTermCount img) (hm : m < imgTerm img j 4) :
    imgTerm img j (5 + 2 * m) ≤ imgHigh img ∧ imgTerm img j (6 + 2 * m) % 128 ≤ 63 ∧
      (imgTerm img j (5 + 2 * m) = imgOwn img → imgTerm img j (6 + 2 * m) % 128 < 8 * imgWidth img) := by
  have hbad : ¬ literalBad img j m = true :=
    fun hb => not_of_pass hpass (literalRange_fails_iff img) ⟨j, hj, m, hm, hb⟩
  rw [literalBad_iff] at hbad
  omega

theorem output_of_pass {i : Nat} (hi : i < 8) (hsource : imgOutput img i 0 ≠ 255) :
    imgOutput img i 0 < imgTermCount img :=
  Nat.lt_of_not_le fun h => not_of_pass hpass (outputSource_fails_iff img) ⟨i, hi, hsource, h⟩

end

/-! ### The fields of the configuration (R148–R150, R169) -/

theorem pointSource_eq_constant_iff (entry : Nat) :
    (pointSource entry = .constant false ↔ entry = 0x00) ∧ (pointSource entry = .constant true ↔ entry = 0x01) := by
  unfold pointSource
  grind

theorem pointSource_eq_input_iff (entry : Nat) (j : Fin 16) : pointSource entry = .input j ↔ entry = 0x10 + j.val := by
  have hj := j.isLt
  unfold pointSource
  split_ifs <;> simp [Fin.ext_iff] <;> omega

theorem pointSource_eq_term_iff (entry : Nat) (j : Fin 16) : pointSource entry = .term j ↔ entry = 0x20 + j.val := by
  have hj := j.isLt
  unfold pointSource
  split_ifs <;> simp [Fin.ext_iff] <;> omega

theorem pointSource_eq_none_iff (entry : Nat) :
    pointSource entry = .none ↔ ¬ (entry ≤ 0x01 ∨ (0x10 ≤ entry ∧ entry ≤ 0x2F)) := by
  unfold pointSource
  split_ifs <;> simp <;> omega

theorem imgTerm_literal_station (img : List Byte) (j m : Nat) :
    imgTerm img j (5 + 2 * m) = imgAt img (96 + 21 * j + 5 + 2 * m) :=
  congrArg (imgAt img) (Nat.add_assoc _ _ _).symm

theorem imgTerm_literal_point (img : List Byte) (j m : Nat) :
    imgTerm img j (6 + 2 * m) = imgAt img (96 + 21 * j + 6 + 2 * m) :=
  congrArg (imgAt img) (Nat.add_assoc _ _ _).symm

theorem imgOutput_invert (img : List Byte) (i : Nat) : imgOutput img i 1 = imgAt img (433 + 3 * i) :=
  congrArg (imgAt img) (by omega)

theorem imgOutput_safe (img : List Byte) (i : Nat) : imgOutput img i 2 = imgAt img (434 + 3 * i) :=
  congrArg (imgAt img) (by omega)

theorem configurationOf_terms_length (img : List Byte) : (configurationOf img).terms.length = imgTermCount img := by
  simp [configurationOf]

theorem termOf_literals_length (img : List Byte) (j : Nat) : (termOf img j).literals.length = imgTerm img j 4 := by
  simp [termOf]

theorem termOf_kind_iff {img : List Byte} {j : Nat} (h : imgTerm img j 0 / 16 ≤ 2) :
    ((termOf img j).kind = .all ↔ imgTerm img j 0 / 16 = 0) ∧ ((termOf img j).kind = .any ↔ imgTerm img j 0 / 16 = 1) ∧
      ((termOf img j).kind = .count ↔ imgTerm img j 0 / 16 = 2) := by
  unfold termOf
  generalize imgTerm img j 0 / 16 = code at h
  interval_cases code <;> simp

theorem termOf_policy_iff {img : List Byte} {j : Nat} (h : imgTerm img j 0 % 16 ≤ 2) :
    ((termOf img j).policy = .forceOn ↔ imgTerm img j 0 % 16 = 0) ∧
      ((termOf img j).policy = .forceOff ↔ imgTerm img j 0 % 16 = 1) ∧
      ((termOf img j).policy = .hold ↔ imgTerm img j 0 % 16 = 2) := by
  unfold termOf
  generalize imgTerm img j 0 % 16 = code at h
  interval_cases code <;> simp

theorem literalOf_sense_iff (img : List Byte) (j m : Nat) :
    (literalOf img j m).sense = .trueWhenLow ↔ 128 ≤ imgTerm img j (6 + 2 * m) := by
  simp [literalOf]

theorem outputOf_source_eq_none_iff (img : List Byte) (i : Nat) :
    (outputOf img i).source = none ↔ imgOutput img i 0 = 255 := by
  simp [outputOf]

/-- Bit `i` of a number cut to `n` bits. -/
theorem getLsbD_ofNat_of_lt {n i : Nat} (x : Nat) (h : i < n) : (BitVec.ofNat n x).getLsbD i = x.testBit i := by
  rw [BitVec.getLsbD_ofNat, decide_eq_true h, Bool.true_and]

/-- An element of a list made from 0, 1, … by `f` is `f` of its place. -/
theorem map_range_getElem? {α : Type} {f : Nat → α} {n j : Nat} {a : α} (h : ((List.range n).map f)[j]? = some a) :
    j < n ∧ a = f j := by
  obtain ⟨hj, rfl⟩ := List.getElem?_eq_some_iff.mp h
  rw [List.length_map, List.length_range] at hj
  exact ⟨hj, by simp⟩

section
variable {img : List Byte} (hpass : ∀ r, imageFails img r = false)
include hpass

theorem configurationOf_own_val : (configurationOf img).own.val = imgOwn img :=
  Nat.mod_eq_of_lt (by have := stations_of_pass hpass; omega)

theorem configurationOf_high_val : (configurationOf img).high.val = imgHigh img :=
  Nat.mod_eq_of_lt (by have := stations_of_pass hpass; omega)

theorem configurationOf_cadence_rounds : (configurationOf img).cadence.rounds = 2 ^ imgAt img 7 :=
  Cadence.rounds_ofCode (cadence_of_pass hpass).1

theorem literalOf_station_val {j m : Nat} (hj : j < imgTermCount img) (hm : m < imgTerm img j 4) :
    (literalOf img j m).station.val = imgTerm img j (5 + 2 * m) :=
  Nat.mod_eq_of_lt (by have := stations_of_pass hpass; have := literal_of_pass hpass hj hm; omega)

theorem literalOf_point_val {j m : Nat} (hj : j < imgTermCount img) (hm : m < imgTerm img j 4) :
    (literalOf img j m).point.val = imgTerm img j (6 + 2 * m) % 128 :=
  Nat.mod_eq_of_lt (by have := literal_of_pass hpass hj hm; omega)

/-- An output follows the term that its record names, which is one of the table's. -/
theorem outputOf_source_val {i : Nat} (hi : i < 8) {j : TermNo} (hj : (outputOf img i).source = some j) :
    j.val = imgOutput img i 0 ∧ j.val < imgTermCount img := by
  have hne : imgOutput img i 0 ≠ 255 := fun h => by
    rw [(outputOf_source_eq_none_iff img i).mpr h] at hj
    cases hj
  have hlt := output_of_pass hpass hi hne
  have hcount := termCount_of_pass hpass
  have hval : j.val = imgOutput img i 0 := by
    simp only [outputOf, if_neg hne, Option.some.injEq] at hj
    rw [← hj]
    exact Nat.mod_eq_of_lt (by omega)
  exact ⟨hval, by omega⟩

/-! ### The configuration of an image that passes -/

/-- A term of the configuration is within the ranges of R25. -/
theorem termOf_inRange {j : Nat} (hj : j < imgTermCount img) :
    let t := termOf img j
    1 ≤ t.literals.length ∧ t.literals.length ≤ 8 ∧ t.hold ≤ 255 ∧ t.release ≤ 255 ∧
      (t.kind = .count → 1 ≤ t.k ∧ t.k ≤ t.literals.length) ∧
      ∀ l ∈ t.literals, l.station ≤ (configurationOf img).high ∧
        (l.station = (configurationOf img).own → l.point.val < 8 * (configurationOf img).width) := by
  intro t
  obtain ⟨hkind, -, hn1, hn8, hk⟩ := term_of_pass hpass hj
  have hlength : t.literals.length = imgTerm img j 4 := termOf_literals_length img j
  refine ⟨hlength ▸ hn1, hlength ▸ hn8, Nat.le_of_lt_succ (imgAt_lt img _), Nat.le_of_lt_succ (imgAt_lt img _),
    fun hcount => hlength ▸ hk ((termOf_kind_iff hkind).2.2.mp hcount), fun l hl => ?_⟩
  obtain ⟨m, hm, rfl⟩ := List.mem_map.mp hl
  rw [List.mem_range] at hm
  obtain ⟨hstation, -, hlive⟩ := literal_of_pass hpass hj hm
  rw [Fin.le_def, Fin.ext_iff, configurationOf_own_val hpass, configurationOf_high_val hpass,
    literalOf_station_val hpass hj hm, literalOf_point_val hpass hj hm]
  exact ⟨hstation, hlive⟩

theorem configurationOf_inRange : (configurationOf img).inRange := by
  have hterms := configurationOf_terms_length img
  refine ⟨?_, period_of_pass hpass, Nat.le_of_lt_succ (imgAt_lt img 6), ?_, (grace_of_pass hpass).1, (grace_of_pass hpass).2,
    (listen_of_pass hpass).1, (listen_of_pass hpass).2, (width_of_pass hpass).1, (width_of_pass hpass).2,
    hterms ▸ termCount_of_pass hpass, fun t ht => ?_, fun i hi => ?_, fun o j hj => ?_⟩
  · rw [Fin.le_def, configurationOf_own_val hpass, configurationOf_high_val hpass]
    exact (stations_of_pass hpass).1
  · rw [configurationOf_cadence_rounds hpass]
    exact (cadence_of_pass hpass).2
  · obtain ⟨j, hj, rfl⟩ := List.mem_map.mp ht
    exact termOf_inRange hpass (List.mem_range.mp hj)
  · have hpoint := point_of_pass hpass hi
    have hsource : (configurationOf img).points.get i = pointSource (imgPoint img i.val) := Vector.get_ofFn _ i
    rw [hsource, hterms, Ne, pointSource_eq_none_iff]
    refine ⟨by omega, fun j hj => ?_⟩
    have := (pointSource_eq_term_iff _ j).mp hj
    omega
  · have hrecord : (configurationOf img).outputs.get o = outputOf img o.val := Vector.get_ofFn _ o
    rw [hrecord] at hj
    exact hterms ▸ (outputOf_source_val hpass o.isLt hj).2

end

/-- Settles O8. -/
theorem passingImageGivesConfiguration : Obligations.PassingImageGivesConfiguration := by
  refine ⟨fun img hpass => configurationOf_inRange hpass, fun img hpass => ?_, fun img => ?_⟩
  · intro at' cfg
    refine ⟨configurationOf_own_val hpass, configurationOf_high_val hpass, ?_, ?_, rfl, configurationOf_cadence_rounds hpass,
      rfl, rfl, rfl, rfl, ?_, fun g => ?_, fun g hg => ?_, fun b hb => ?_, fun j t ht => ?_, fun i => ?_, fun o => ?_⟩
    · simp [cfg, at', configurationOf, imgAt, Nat.mul_comm]
    · exact Nat.mod_eq_of_lt (Nat.lt_succ_of_le (rate_of_pass hpass))
    · exact configurationOf_terms_length img
    · exact congrArg Fin.val (Vector.get_ofFn _ g)
    · exact getLsbD_ofNat_of_lt (at' 17) hg
    · have hmask : cfg.mask = BitVec.ofNat 13 (256 * at' 18 + at' 19) :=
        congrArg (fun high => BitVec.ofNat 13 (high + at' 19)) (Nat.mul_comm _ _)
      rw [hmask, getLsbD_ofNat_of_lt _ hb]
    · obtain ⟨hj, rfl⟩ := map_range_getElem? ht
      obtain ⟨hkind, hpolicy, -⟩ := term_of_pass hpass hj
      obtain ⟨hall, hany, hcount⟩ := termOf_kind_iff hkind
      obtain ⟨hon, hoff, hhold⟩ := termOf_policy_iff hpolicy
      refine ⟨hall, hany, hcount, hon, hoff, hhold, rfl, rfl, rfl, termOf_literals_length img j, fun m l hl => ?_⟩
      obtain ⟨hm, rfl⟩ := map_range_getElem? hl
      have hstation := literalOf_station_val hpass hj hm
      have hpoint := literalOf_point_val hpass hj hm
      have hsense := literalOf_sense_iff img j m
      rw [imgTerm_literal_station] at hstation
      rw [imgTerm_literal_point] at hpoint hsense
      exact ⟨hstation, hpoint, hsense⟩
    · have hsource : cfg.points.get i = pointSource (imgPoint img i.val) := Vector.get_ofFn _ i
      rw [hsource]
      obtain ⟨hlow, hhigh⟩ := pointSource_eq_constant_iff (imgPoint img i.val)
      exact ⟨hlow, hhigh, pointSource_eq_input_iff _, pointSource_eq_term_iff _⟩
    · have hrecord : cfg.outputs.get o = outputOf img o.val := Vector.get_ofFn _ o
      rw [hrecord]
      refine ⟨outputOf_source_eq_none_iff img o.val, fun j hj => (outputOf_source_val hpass o.isLt hj).1, ?_, ?_⟩
      · exact decide_eq_true_iff.trans (by rw [imgOutput_invert]; rfl)
      · exact decide_eq_true_iff.trans (by rw [imgOutput_safe]; rfl)
  · intro at'
    refine ⟨imageCheck_fails_iff, decide_eq_true_iff, decide_eq_true_iff, decide_eq_true_iff, decide_eq_true_iff,
      cadence_fails_iff img, decide_eq_true_iff, pointMap_fails_iff img, ?_, ?_, outputSource_fails_iff img,
      decide_eq_true_iff, decide_eq_true_iff⟩
    · simp only [termShape_fails_iff, termBad_iff]
      rfl
    · simp only [literalRange_fails_iff, literalBad_iff, imgTerm_literal_station, imgTerm_literal_point]
      rfl

end Sys2Proof.Machine

namespace Sys2Proof.Machine

/-! ### Raw values (R31, R32) -/

/-- Each answer is TRUE, FALSE or UNKNOWN (R31). -/
theorem length_eq_tallies (answers : List Tri) :
    answers.length = answers.count .yes + answers.count .no + answers.count .unknown := by
  induction answers with
  | nil => rfl
  | cons r rs ih => cases r <;> simp [ih] <;> omega

theorem rawValue_all {t : Term} (h : t.kind = .all) (answers : List Tri) :
    rawValue t answers =
      if 1 ≤ answers.count .no then .no else if 1 ≤ answers.count .unknown then .unknown else .yes := by
  rw [rawValue, h]
  rfl

theorem rawValue_any {t : Term} (h : t.kind = .any) (answers : List Tri) :
    rawValue t answers =
      if 1 ≤ answers.count .yes then .yes else if 1 ≤ answers.count .unknown then .unknown else .no := by
  rw [rawValue, h]
  rfl

theorem rawValue_count {t : Term} (h : t.kind = .count) (answers : List Tri) :
    rawValue t answers =
      if t.k ≤ answers.count .yes then .yes
      else if answers.count .yes + answers.count .unknown < t.k then .no else .unknown := by
  rw [rawValue, h]
  rfl

/-- Without an UNKNOWN answer no kind gives UNKNOWN (R32). -/
theorem rawValue_ne_unknown (t : Term) {answers : List Tri} (h : answers.count .unknown = 0) :
    rawValue t answers ≠ .unknown := by
  cases hk : t.kind with
  | all => rw [rawValue_all hk]; grind
  | any => rw [rawValue_any hk]; grind
  | count => rw [rawValue_count hk]; grind

theorem Sense.apply_ne_unknown (sense : Sense) (b : Bool) : sense.apply b ≠ .unknown := by
  cases sense <;> cases b <;> decide

/-- Literals on the own station are always known (R22). -/
theorem count_unknown_of_own {cfg : Configuration} {literals : List Literal} (h : ∀ l ∈ literals, l.station = cfg.own)
    (snapshot : BitVec 64) (img : Image) : (literals.map (resolve cfg snapshot img)).count .unknown = 0 := by
  rw [List.count_eq_zero]
  intro hmem
  obtain ⟨l, hl, hunknown⟩ := List.mem_map.mp hmem
  rw [resolve_of_own (h l hl)] at hunknown
  exact Sense.apply_ne_unknown _ _ hunknown

/-- Settles O22. -/
theorem rawValueFollowsTallies : Obligations.RawValueFollowsTallies := by
  intro t answers n T F U
  have hn : n = T + F + U := length_eq_tallies answers
  refine ⟨fun hall => ?_, fun hany => ?_, fun hcount => ?_,
    fun cfg snapshot img hown => rawValue_ne_unknown t (count_unknown_of_own hown snapshot img)⟩
  · rw [rawValue_all hall, rawValue_count (t := { t with kind := .count, k := n }) rfl]
    grind
  · rw [rawValue_any hany, rawValue_count (t := { t with kind := .count, k := 1 }) rfl]
    grind
  · rw [rawValue_count hcount]
    grind

/-! ### Phases (R33–R37) -/

/-- Under HOLD an UNKNOWN raw value moves nothing (R34). -/
theorem Phase.next_unknown_of_hold {t : Term} (h : t.policy = .hold) (p : Phase) : p.next t .unknown = p := by
  simp only [Phase.next, h, effective]

/-- An evaluated close is an effective TRUE, an effective FALSE, or none under HOLD (R33). -/
theorem Phase.next_cases (t : Term) (raw : Tri) (p : Phase) :
    p.next t raw = p.onTrue t.hold ∨ p.next t raw = p.onFalse t.release ∨ p.next t raw = p := by
  unfold Phase.next
  split <;> simp

theorem termEvent_eq_nil_iff (j : TermNo) (before after : TermState) :
    termEvent j before after = [] ↔ after.phase.value = before.phase.value := by
  unfold termEvent
  split
  case isTrue h => exact iff_of_true rfl h.symm
  case isFalse h => exact iff_of_false (List.cons_ne_nil _ _) (Ne.symm h)

/-- Settles O23. -/
theorem policyDecidesUnknown : Obligations.PolicyDecidesUnknown := by
  intro t raw st
  refine ⟨rfl, decide_eq_true_iff, ?_, ?_, ?_⟩
  · rintro rfl hon
    simp only [TermState.next, Phase.next, hon, effective]
  · rintro rfl hoff
    simp only [TermState.next, Phase.next, hoff, effective]
  · rintro rfl hhold
    have hphase : (st.next t .unknown).phase = st.phase := Phase.next_unknown_of_hold hhold st.phase
    exact ⟨hphase, fun j => (termEvent_eq_nil_iff j _ _).mpr (congrArg Phase.value hphase)⟩

/-- The phase after so many effective TRUE closes on end from OFF (R35). -/
def Phase.afterTrue (hold closes : Nat) : Phase :=
  if closes = 0 then .off else if closes ≤ hold then .arming closes else .on

/-- The phase after so many effective FALSE closes on end from ON (R36). -/
def Phase.afterFalse (release closes : Nat) : Phase :=
  if closes = 0 then .on else if closes ≤ release then .disarming closes else .off

theorem Phase.onTrue_afterTrue (hold closes : Nat) :
    (Phase.afterTrue hold closes).onTrue hold = Phase.afterTrue hold (closes + 1) := by
  unfold Phase.afterTrue Phase.onTrue
  grind

theorem Phase.onFalse_afterFalse (release closes : Nat) :
    (Phase.afterFalse release closes).onFalse release = Phase.afterFalse release (closes + 1) := by
  unfold Phase.afterFalse Phase.onFalse
  grind

theorem TermState.phase_iterate_yes (t : Term) {st : TermState} (h : st.phase = .off) (closes : Nat) :
    ((fun x : TermState => x.next t .yes)^[closes] st).phase = Phase.afterTrue t.hold closes := by
  induction closes with
  | zero => exact h
  | succ k ih =>
    rw [Function.iterate_succ_apply', ← Phase.onTrue_afterTrue, ← ih]
    rfl

/-- From ON, and from any count on the way to OFF, only the FALSE closes of a run of FALSE and held UNKNOWN ones count (R34, R36). -/
theorem TermState.phase_foldl_false {t : Term} {raws : List Tri}
    (hraws : ∀ r ∈ raws, r = .no ∨ (r = .unknown ∧ t.policy = .hold)) (st : TermState) (closes : Nat)
    (h : st.phase = Phase.afterFalse t.release closes) :
    (raws.foldl (fun x r => x.next t r) st).phase = Phase.afterFalse t.release (closes + raws.count .no) := by
  induction raws generalizing st closes with
  | nil => exact h
  | cons r rs ih =>
    obtain ⟨hr, hrs⟩ := List.forall_mem_cons.mp hraws
    rw [List.foldl_cons]
    rcases hr with rfl | ⟨rfl, hhold⟩
    · have hnext : (st.next t .no).phase = Phase.afterFalse t.release (closes + 1) := by
        rw [← Phase.onFalse_afterFalse, ← h]
        rfl
      rw [ih hrs _ _ hnext, List.count_cons_self]
      congr 1
      omega
    · have hnext : (st.next t .unknown).phase = Phase.afterFalse t.release closes :=
        (Phase.next_unknown_of_hold hhold st.phase).trans h
      rw [ih hrs _ _ hnext, List.count_cons_of_ne (by decide)]

theorem Phase.afterFalse_eq_off_iff (release closes : Nat) :
    Phase.afterFalse release closes = .off ↔ release + 1 ≤ closes := by
  unfold Phase.afterFalse
  grind

/-- A turn ON posts TERM_ON (R38). -/
theorem termEvent_of_on {before after : TermState} (j : TermNo) (hb : before.phase.value = false)
    (ha : after.phase.value = true) : termEvent j before after = [(.termOn, j.val, after.byPolicy.toNat)] := by
  simp [termEvent, hb, ha]

/-- A turn OFF posts TERM_OFF (R38). -/
theorem termEvent_of_off {before after : TermState} (j : TermNo) (hb : before.phase.value = true)
    (ha : after.phase.value = false) : termEvent j before after = [(.termOff, j.val, after.byPolicy.toNat)] := by
  simp [termEvent, hb, ha]

/-- Settles O24. -/
theorem trueClosesTurnTermOn : Obligations.TrueClosesTurnTermOn := by
  intro t st j u on none'
  have hphase : u.phase = st.phase.onTrue t.hold := rfl
  have hturns (hu : u.phase = .on) (hoff : st.phase.value = false) : u.phase = .on ∧ on :=
    ⟨hu, termEvent_of_on j hoff (congrArg Phase.value hu)⟩
  have hquiet {p : Phase} (hu : u.phase = p) (hsame : p.value = st.phase.value) : u.phase = p ∧ none' :=
    ⟨hu, (termEvent_eq_nil_iff j st u).mpr ((congrArg Phase.value hu).trans hsame)⟩
  refine ⟨fun h hhold => ?_, fun h hhold => ?_, fun c h hc => ?_, fun c h hc => ?_, fun h => ?_, fun c h => ?_,
    fun h => ⟨fun k hk hle => ?_, ?_⟩⟩
  case refine_7 => rw [TermState.phase_iterate_yes t h, Phase.afterTrue, if_neg (by omega), if_pos hle]
  case refine_8 => rw [TermState.phase_iterate_yes t h, Phase.afterTrue, if_neg (by omega), if_neg (by omega)]
  all_goals rw [h] at hphase hturns hquiet
  · exact hturns (hphase.trans (if_pos hhold)) rfl
  · exact hquiet (hphase.trans (if_neg (by omega))) rfl
  · exact hturns (hphase.trans (if_pos hc)) rfl
  · exact hquiet (hphase.trans (if_neg (by omega))) rfl
  · exact hquiet hphase rfl
  · exact hquiet hphase rfl

/-- Settles O25. -/
theorem falseClosesTurnTermOff : Obligations.FalseClosesTurnTermOff := by
  intro t st j u off none'
  have hphase : u.phase = st.phase.onFalse t.release := rfl
  have hturns (hu : u.phase = .off) (hon : st.phase.value = true) : u.phase = .off ∧ off :=
    ⟨hu, termEvent_of_off j hon (congrArg Phase.value hu)⟩
  have hquiet {p : Phase} (hu : u.phase = p) (hsame : p.value = st.phase.value) : u.phase = p ∧ none' :=
    ⟨hu, (termEvent_eq_nil_iff j st u).mpr ((congrArg Phase.value hu).trans hsame)⟩
  refine ⟨fun h hrelease => ?_, fun h hrelease => ?_, fun c h hc => ?_, fun c h hc => ?_, fun h => ?_, fun c h => ?_,
    fun h raws hraws => ?_⟩
  case refine_7 => rw [TermState.phase_foldl_false hraws st 0 h, Nat.zero_add, Phase.afterFalse_eq_off_iff]
  all_goals rw [h] at hphase hturns hquiet
  · exact hturns (hphase.trans (if_pos hrelease)) rfl
  · exact hquiet (hphase.trans (if_neg (by omega))) rfl
  · exact hturns (hphase.trans (if_pos hc)) rfl
  · exact hquiet (hphase.trans (if_neg (by omega))) rfl
  · exact hquiet hphase rfl
  · exact hquiet hphase rfl

theorem Phase.value_eq_false_iff (p : Phase) : p.value = false ↔ p = .off ∨ ∃ c, p = .arming c := by
  cases p <;> simp [Phase.value]

theorem Phase.value_eq_true_iff (p : Phase) : p.value = true ↔ p = .on ∨ ∃ c, p = .disarming c := by
  cases p <;> simp [Phase.value]

/-- An effective TRUE leaves the value or turns the term ON (R35). -/
theorem Phase.onTrue_value (hold : Nat) (p : Phase) : (p.onTrue hold).value = p.value ∨ p.onTrue hold = .on := by
  unfold Phase.onTrue
  split
  case h_1 | h_2 => split <;> simp [Phase.value]
  case h_3 | h_4 => exact .inr rfl

/-- An effective FALSE leaves the value or turns the term OFF (R36). -/
theorem Phase.onFalse_value (release : Nat) (p : Phase) :
    (p.onFalse release).value = p.value ∨ p.onFalse release = .off := by
  unfold Phase.onFalse
  split
  case h_1 | h_2 => split <;> simp [Phase.value]
  case h_3 | h_4 => exact .inr rfl

/-- A close that changes the value of a term ends in ON or OFF, with no count (R37). -/
theorem Phase.next_value (t : Term) (raw : Tri) (p : Phase) :
    (p.next t raw).value = p.value ∨ p.next t raw = .on ∨ p.next t raw = .off := by
  rcases Phase.next_cases t raw p with h | h | h <;> rw [h]
  · exact (Phase.onTrue_value t.hold p).imp_right .inl
  · exact (Phase.onFalse_value t.release p).imp_right .inr
  · exact .inl rfl

theorem Phase.next_value_ne_iff (t : Term) (raw : Tri) (p : Phase) :
    (p.next t raw).value ≠ p.value ↔
      (p.next t raw = .on ∧ p.value = false) ∨ (p.next t raw = .off ∧ p.value = true) := by
  constructor
  · intro hne
    rcases Phase.next_value t raw p with h | h | h
    · exact absurd h hne
    · rw [h] at hne
      exact .inl ⟨h, Bool.eq_false_iff.mpr hne.symm⟩
    · rw [h] at hne
      exact .inr ⟨h, Bool.ne_false_iff.mp hne.symm⟩
  · rintro (⟨hnext, hvalue⟩ | ⟨hnext, hvalue⟩) <;> rw [hnext, hvalue] <;> decide

/-- Settles O26. -/
theorem countStaysWithinHoldAndRelease : Obligations.CountStaysWithinHoldAndRelease := by
  intro t raw st j hlaw u
  have hnext : u.phase.countLaw t := Phase.countLaw_next hlaw raw
  refine ⟨hnext, fun hhold c hc => ?_, fun hrelease c hc => ?_, ?_, termEvent_eq_nil_iff j st u⟩
  · rw [hc] at hnext
    have hcount : 1 ≤ c ∧ c ≤ t.hold := hnext
    omega
  · rw [hc] at hnext
    have hcount : 1 ≤ c ∧ c ≤ t.release := hnext
    omega
  · rw [← Phase.value_eq_false_iff, ← Phase.value_eq_true_iff]
    exact Phase.next_value_ne_iff t raw st.phase

end Sys2Proof.Machine

end

section
/-! PROOFS of the statements on the own frame and on frames on the line. -/

-- One proof after another, as in the sections above: every thread that elaborates a proof reserves a stack of its own.
set_option Elab.async false

namespace Sys2Proof.Machine

/-! ### The start bit and the release of the line (R79, R93, R94) -/

/-- The own frame begins with a dominant start bit (R67). -/
theorem Sender.line_zero (t : Sender) : t.line[0]? = some dominant := rfl

/-- A collision is never found at the start bit, which is dominant (R94). -/
theorem Sender.ne_zero_of_recessive {t : Sender} {bit : Nat} (h : t.line[bit]? = some recessive) : bit ≠ 0 := by
  rintro rfl
  rw [t.line_zero] at h
  exact absurd h (by decide)

theorem Sender.startDue_of {t : Sender} (hidle : t.attempt = .idle) (hkind : t.kind ≠ none) : t.startDue = true := by
  rw [Sender.startDue, hidle, Option.isSome_iff_ne_none.mpr hkind]
  rfl

theorem Sender.reaches_of {t : Sender} {bit : Nat} (hdrive : t.attempt = .driving) (hle : t.driven ≤ bit + 1) :
    t.reaches bit = true := by
  rw [Sender.reaches, decide_eq_true hdrive, decide_eq_true hle]
  rfl

/-- START_BIT on a recessive line (R93). -/
theorem exec_startBit_driven {s : State} (hactive : s.ctl.station = .active) (hdue : s.tx.startDue = true) :
    exec (.startBit false) s =
      .next (State.startReception true
        { s with tx := { s.tx with attempt := .driving, driven := 1, seq := s.tx.seq + 1 } }) :=
  if_pos ⟨hactive, hdue⟩

/-- START_BIT on a line that is dominant already (R93). -/
theorem exec_startBit_taken {s : State} (hactive : s.ctl.station = .active) (hdue : s.tx.startDue = true) :
    exec (.startBit true) s =
      .next (State.count Counters.bumpCollisions
        (State.startReception false { s with tx := { s.tx with attempt := .takenOver } })) :=
  if_pos ⟨hactive, hdue⟩

/-- A mismatch at a bit after the start bit leaves the bits so far as a foreign reception (R79). -/
theorem State.foreignFrom_of_ne_zero {bit : Nat} (h : bit ≠ 0) (s : State) :
    s.foreignFrom bit =
      { s with rx := { s.rx.hear s.rx.startWalk ((s.tx.line.take bit).drop s.tx.driven) with ownMark := false } } :=
  if_neg h

/-- COLLISION at a bit that is driven recessive (R94). -/
theorem exec_collision_of {s : State} {bit : Nat} (hreach : s.tx.reaches bit = true)
    (hbit : s.tx.line[bit]? = some recessive) :
    exec (.collision bit) s =
      .next (State.count Counters.bumpCollisions
        { s.foreignFrom bit with tx := { (s.foreignFrom bit).tx with attempt := .takenOver } }) :=
  if_pos ⟨hreach, hbit⟩

/-- TRANSCEIVER_FAULT at a bit that is driven dominant (R94). -/
theorem exec_transceiverFault_of {s : State} {bit : Nat} (hreach : s.tx.reaches bit = true)
    (hbit : s.tx.line[bit]? = some dominant) :
    exec (.transceiverFault bit) s = .next (s.foreignFrom bit).attemptLost :=
  if_pos ⟨hreach, hbit⟩

/-- ATTEMPT_SENT of a frame that is being driven (R96). -/
theorem exec_attemptSent_of {s : State} (hdrive : s.tx.attempt = .driving) :
    exec .attemptSent s = .next (State.attemptWasSent { s with rx := Receiver.idleAfter dominant }) :=
  if_pos hdrive

/-- The pin at the start bit (R93, R172). -/
theorem State.ltx_of_startBit {s : State} (hdrive : s.tx.attempt = .driving) (hdriven : s.tx.driven = 1) :
    s.ltx = dominant := by
  rw [State.ltx, hdrive, hdriven]
  cases s.line.mark with
  | some _ => rfl
  | none => rfl

/-- A sender that has released the line leaves it recessive while no mark is driven (R94, R172). -/
theorem State.ltx_of_takenOver {s : State} (htaken : s.tx.attempt = .takenOver) (hmark : s.line.mark = none) :
    s.ltx = recessive := by
  rw [State.ltx, htaken, hmark]

/-- Settles O27. -/
theorem startBitDrivesAndCollisionReleases : Obligations.StartBitDrivesAndCollisionReleases := by
  refine ⟨fun s taken hactive hidle hkind => ?_, fun s bit hdrive hle hbit hmark => ?_⟩
  · have hdue := Sender.startDue_of hidle hkind
    cases taken with
    | false =>
      refine ⟨_, exec_startBit_driven hactive hdue, rfl, rfl, fun _ => ⟨rfl, State.ltx_of_startBit rfl rfl, ?_, rfl⟩, nofun⟩
      exact BitVec.toNat_add _ _
    | true =>
      exact ⟨_, exec_startBit_taken hactive hdue, rfl, rfl, nofun, fun _ =>
        ⟨rfl, fun hmark => State.ltx_of_takenOver rfl hmark, rfl⟩⟩
  · refine ⟨_, exec_collision_of (Sender.reaches_of hdrive hle) hbit, ?_, State.ltx_of_takenOver rfl ?_⟩
    · rw [State.foreignFrom_of_ne_zero (Sender.ne_zero_of_recessive hbit)]
      rfl
    · rw [State.foreignFrom_of_ne_zero (Sender.ne_zero_of_recessive hbit)]
      exact hmark

/-! ### The outcome of an attempt (R96–R98, R118) -/

/-- A change of station state moves the controller, the sender, the outputs and the tap, and nothing else (R122, R139). -/
theorem State.enter_eq (st : Station) (detail : Nat) (s : State) :
    s.enter st detail =
      { s with
        ctl := (s.enter st detail).ctl
        tx := s.tx.enter st
        drv := { s.drv with levels := (s.enter st detail).drv.levels }
        tap := (s.enter st detail).tap } := by
  apply State.eq_of_fields
  case drv => exact State.enter_drv st detail s
  all_goals simp

/-- The controller at an entry to WITHDRAWN (R117, R118). -/
theorem Controller.enter_withdrawn (c : Controller) :
    c.enter .withdrawn = { c with station := .withdrawn, withdrawalPending := false } := rfl

/-- The sender and a counter after an attempt's outcome, before the state that the outcome leads to (R96, R97). -/
def State.outcome (losses : Nat) (f : Counters → Counters) (s : State) : State :=
  State.count f { s with tx := { s.tx.settle with losses := losses } }

/-- A lost attempt below the limit (R97, R98). -/
theorem State.attemptLost_of_lt {s : State} (h : s.tx.losses + 1 < 4) :
    s.attemptLost =
      if s.tx.kind = some .leave then
        (s.outcome (s.tx.losses + 1) Counters.bumpAttemptsLost).enter .withdrawn detailLeaveLost
      else s.outcome (s.tx.losses + 1) Counters.bumpAttemptsLost := by
  have hmin : min Config.lossLimit (s.tx.losses + 1) = s.tx.losses + 1 := Nat.min_eq_right h.le
  rw [State.attemptLost, hmin]
  exact if_neg h.ne

/-- A sent attempt (R96, R98). -/
theorem State.attemptWasSent_eq (s : State) :
    s.attemptWasSent =
      if s.tx.kind = some .leave then (s.outcome 0 Counters.bumpFramesSent).enter .withdrawn detailLeaveSent
      else s.outcome 0 Counters.bumpFramesSent := rfl

/-- What an outcome below the loss limit leaves: a DATA attempt changes no state, a LEAVE enters WITHDRAWN (R98, R118). -/
theorem State.outcome_settles {s t : State} {kind : FrameKind} {losses : Nat} {f : Counters → Counters} {detail : Nat}
    (hkind : s.tx.kind = some kind)
    (ht : t = if s.tx.kind = some .leave then (s.outcome losses f).enter .withdrawn detail else s.outcome losses f) :
    t = { s with
        ctl := t.ctl
        tx := { s.tx with attempt := .idle, kind := none, buffer := none, driven := 0, losses := losses }
        cnt := f s.cnt
        drv := { s.drv with levels := t.drv.levels }
        tap := t.tap } ∧
      (kind = .data → t.ctl = s.ctl ∧ t.drv = s.drv ∧ t.tap = s.tap) ∧
      (kind = .leave →
        t.ctl = { s.ctl with station := .withdrawn, withdrawalPending := false } ∧ PostsState 4 detail s t) := by
  cases kind with
  | data =>
    have hdata : t = s.outcome losses f := ht.trans (if_neg (by rw [hkind]; decide))
    subst hdata
    exact ⟨rfl, fun _ => ⟨rfl, rfl, rfl⟩, nofun⟩
  | leave =>
    have hleave : t = (s.outcome losses f).enter .withdrawn detail := ht.trans (if_pos hkind)
    subst hleave
    refine ⟨State.enter_eq .withdrawn detail (s.outcome losses f), nofun, fun _ => ⟨?_, ?_⟩⟩
    · rw [State.enter_ctl, Controller.enter_withdrawn]
      rfl
    · exact postsState_enter (s := s) .withdrawn detail rfl

/-- Settles O29. -/
theorem sentAttemptIsCounted : Obligations.SentAttemptIsCounted := by
  intro s kind hdrive hkind
  exact ⟨_, exec_attemptSent_of hdrive,
    State.outcome_settles (s := { s with rx := Receiver.idleAfter dominant }) hkind (State.attemptWasSent_eq _)⟩

/-- Settles O28. -/
theorem transceiverFaultLosesAttempt : Obligations.TransceiverFaultLosesAttempt := by
  intro s bit kind hactive hdrive hle hbit hkind released
  have hforeign : s.foreignFrom bit = { s with rx := released } := by
    by_cases h0 : bit = 0
    · rw [show released = _ from if_pos h0]
      exact if_pos h0
    · rw [State.foreignFrom_of_ne_zero h0, show released = _ from if_neg h0]
  refine ⟨_, exec_transceiverFault_of (Sender.reaches_of hdrive hle) hbit, fun hlt => ?_, fun _ => by rw [hforeign]⟩
  rw [hforeign]
  exact State.outcome_settles (s := { s with rx := released }) hkind (State.attemptLost_of_lt hlt)

end Sys2Proof.Machine

namespace Sys2Proof.Machine

/-! ### The header and the verdict (R77, R168) -/

/-- A completed frame fails its check or is judged by its header (R77). -/
theorem judge_eq_check_iff (body : List Byte) : judge body = .check ↔ checkMatches body = false := by
  unfold judge
  cases checkMatches body with
  | false => exact iff_of_true rfl rfl
  | true =>
    refine iff_of_false ?_ nofun
    cases (Header.ofBytes body).validKind <;> exact nofun

/-- A frame as it was built passes its check (R71). -/
theorem checkMatches_frameBody (h : Header) (points : List Byte) : checkMatches (frameBody h points) = true := by
  rw [checkMatches, take_frameBody, drop_frameBody, decide_eq_true rfl]

/-- A frame built from an invalid header is judged HEADER (R77). -/
theorem judge_frameBody_of_invalid {h : Header} (hk : h.validKind = none) (points : List Byte) :
    judge (frameBody h points) = .header := by
  have hheader : Header.ofBytes (frameBody h points) = h := by
    rw [frameBody, List.append_assoc, Header.ofBytes_bytes]
  rw [judge, if_pos (checkMatches_frameBody h points), hheader, hk]

theorem Header.validKind_eq_none {h : Header} (hbad : h.reserved = true ∨ (h.kind ≠ 1#3 ∧ h.kind ≠ 2#3)) :
    h.validKind = none := by
  rcases hbad with hr | ⟨hdata, hleave⟩
  · exact if_pos hr
  · have hdata : h.kind ≠ FrameKind.code .data := hdata
    have hleave : h.kind ≠ FrameKind.code .leave := hleave
    rw [Header.validKind, if_neg hdata, if_neg hleave, ite_self]

/-- The number that two fields spell, written one after the other. -/
theorem toNat_append_eq {n m : Nat} (a : BitVec n) (b : BitVec m) : (a ++ b).toNat = 2 ^ m * a.toNat + b.toNat := by
  rw [BitVec.toNat_append, ← Nat.shiftLeft_add_eq_or_of_lt b.isLt, Nat.shiftLeft_eq, Nat.mul_comm]

/-- Station number and kind in the header's first byte (R168). -/
theorem Header.byte0_toNat (h : Header) : (h.bytes.getD 0 0).toNat = 8 * h.station.val + h.kind.toNat := by
  have hbyte : h.bytes.getD 0 0 = BitVec.ofNat 5 h.station.val ++ h.kind := rfl
  rw [hbyte, toNat_append_eq, BitVec.toNat_ofNat, Nat.mod_eq_of_lt h.station.isLt]
  rfl

/-- Cadence, width code and flags in the header's second byte (R168). -/
theorem Header.byte1_toNat (h : Header) :
    (h.bytes.getD 1 0).toNat =
      64 * h.cadence.code + 8 * h.widthCode.toNat + 4 * h.flags.stale.toNat + 2 * h.flags.pool.toNat +
        h.reserved.toNat := by
  have hbyte : h.bytes.getD 1 0 =
      BitVec.ofNat 2 h.cadence.code ++ h.widthCode ++ BitVec.ofBool h.flags.stale ++ BitVec.ofBool h.flags.pool ++
        BitVec.ofBool h.reserved := rfl
  have hcode : h.cadence.code % 2 ^ 2 = h.cadence.code := by cases h.cadence <;> rfl
  simp only [hbyte, toNat_append_eq, BitVec.toNat_ofNat, BitVec.toNat_ofBool, hcode]
  omega

/-- Sequence and tag in the header's last two bytes (R168). -/
theorem Header.byte23_toNat (h : Header) :
    256 * (h.bytes.getD 2 0).toNat + (h.bytes.getD 3 0).toNat = 1024 * h.seq.toNat + h.tag.toNat := by
  have hbyte2 : h.bytes.getD 2 0 = h.seq ++ h.tag.extractLsb' 8 2 := rfl
  have hbyte3 : h.bytes.getD 3 0 = h.tag.extractLsb' 0 8 := rfl
  have htag := h.tag.isLt
  simp only [hbyte2, hbyte3, toNat_append_eq, BitVec.extractLsb'_toNat, Nat.shiftRight_eq_div_pow]
  omega

/-! ### The check finds every changed bit (R71) -/

/-- What comes out of the check's register is fed back into its lowest place. -/
theorem crcBit_getLsbD_zero (c : BitVec 16) (b : Bool) : (crcBit c b).getLsbD 0 = (c.msb != b) := by
  unfold crcBit
  cases c.msb != b <;> simp

/-- A step of the check's register can be undone. -/
theorem crcBit_injective (b : Bool) : Function.Injective fun c => crcBit c b := by
  intro c d (h : crcBit c b = crcBit d b)
  have hmsb : c.msb = d.msb := by
    have hzero : (crcBit c b).getLsbD 0 = (crcBit d b).getLsbD 0 := congrArg (·.getLsbD 0) h
    rw [crcBit_getLsbD_zero, crcBit_getLsbD_zero] at hzero
    simpa using hzero
  have hshift : c <<< 1 = d <<< 1 := by
    unfold crcBit at h
    rw [hmsb] at h
    split at h
    · exact (BitVec.xor_left_inj _).mp h
    · exact h
  have hnat := congrArg BitVec.toNat hshift
  rw [BitVec.msb_eq_decide, BitVec.msb_eq_decide, decide_eq_decide] at hmsb
  rw [BitVec.toNat_shiftLeft, BitVec.toNat_shiftLeft, Nat.shiftLeft_eq, Nat.shiftLeft_eq] at hnat
  apply BitVec.eq_of_toNat_eq
  omega

theorem crcBit_not_ne (c : BitVec 16) (b : Bool) : crcBit c (!b) ≠ crcBit c b := by
  intro h
  have hzero : (crcBit c (!b)).getLsbD 0 = (crcBit c b).getLsbD 0 := congrArg (·.getLsbD 0) h
  rw [crcBit_getLsbD_zero, crcBit_getLsbD_zero] at hzero
  simp at hzero

/-- What runs through a register whose steps can be undone can be undone. -/
theorem foldl_injective {α β : Type} {f : α → β → α} (hf : ∀ b, Function.Injective fun a => f a b) (l : List β) :
    Function.Injective fun a => l.foldl f a := by
  induction l with
  | nil => exact Function.injective_id
  | cons b l ih => exact ih.comp (hf b)

theorem crcByte_injective (b : Byte) : Function.Injective fun c => crcByte c b :=
  foldl_injective crcBit_injective (bitsOfByte b)

/-- A byte with one bit changed differs in one place on the line. -/
theorem bitsOfByte_flip (b : Byte) {k : Nat} (hk : k < 8) :
    ∃ before bit after, bitsOfByte b = before ++ bit :: after ∧
      bitsOfByte (b ^^^ (1#8 <<< k)) = before ++ (!bit) :: after := by
  refine ⟨(bitsOfByte b).take (7 - k), b.getLsbD k, (bitsOfByte b).drop (8 - k), ?_, ?_⟩ <;>
    interval_cases k <;> simp [bitsOfByte]

theorem crcByte_flip_ne (c : BitVec 16) (b : Byte) {k : Nat} (hk : k < 8) :
    crcByte c (b ^^^ (1#8 <<< k)) ≠ crcByte c b := by
  obtain ⟨before, bit, after, hb, hflip⟩ := bitsOfByte_flip b hk
  simp only [crcByte, hb, hflip, List.foldl_append, List.foldl_cons]
  exact (foldl_injective crcBit_injective after).ne (crcBit_not_ne _ bit)

/-- Bytes with one bit changed have another check (R71). -/
theorem crc_flip_ne {bytes : List Byte} {i k : Nat} {b : Byte} (hk : k < 8) (hi : bytes[i]? = some b) :
    crc (bytes.set i (b ^^^ (1#8 <<< k))) ≠ crc bytes := by
  obtain ⟨hlt, rfl⟩ := List.getElem?_eq_some_iff.mp hi
  have hcrc (x : Byte) :
      crc (bytes.set i x) =
        (bytes.drop (i + 1)).foldl crcByte (crcByte (crc (bytes.take i)) x) := by
    rw [crc, List.set_eq_take_append_cons_drop, if_pos hlt, List.foldl_append, List.foldl_cons]
    rfl
  conv_rhs => rw [← List.set_getElem_self hlt]
  rw [hcrc, hcrc]
  exact (foldl_injective crcByte_injective _).ne (crcByte_flip_ne _ _ hk)

theorem crcBytes_injective {a b : List Byte} (h : crcBytes a = crcBytes b) : crc a = crc b :=
  BitVec.eq_of_toNat_eq (((bytes16_eq_pair_iff _ _ _).mp h).trans ((bytes16_eq_pair_iff (crc b) _ _).mp rfl).symm)

/-- The check of bytes followed by two more (R77). -/
theorem checkMatches_append (bytes : List Byte) {two : List Byte} (h : two.length = 2) :
    checkMatches (bytes ++ two) = decide (two = crcBytes bytes) := by
  have hlen : (bytes ++ two).length - 2 = bytes.length := by rw [List.length_append, h, Nat.add_sub_cancel]
  rw [checkMatches, hlen, List.drop_left, List.take_left]

/-- A frame with any one bit changed fails its check, be the bit in header, points or check (R71). -/
theorem checkMatches_flip (bytes : List Byte) {i k : Nat} {b : Byte} (hk : k < 8)
    (hi : (bytes ++ crcBytes bytes)[i]? = some b) :
    checkMatches ((bytes ++ crcBytes bytes).set i (b ^^^ (1#8 <<< k))) = false := by
  by_cases hin : i < bytes.length
  · rw [List.getElem?_append_left hin] at hi
    rw [List.set_append_left _ _ hin, checkMatches_append _ (crcBytes_length bytes), decide_eq_false_iff_not]
    exact fun h => crc_flip_ne hk hi (crcBytes_injective h.symm)
  · have hge : bytes.length ≤ i := Nat.le_of_not_lt hin
    rw [List.getElem?_append_right hge] at hi
    rw [List.set_append_right _ _ hge, checkMatches_append _ (by rw [List.length_set, crcBytes_length]),
      decide_eq_false_iff_not]
    intro h
    have hget : (b ^^^ (1#8 <<< k)) = b := by
      obtain ⟨hlt, -⟩ := List.getElem?_eq_some_iff.mp hi
      rw [← h, List.getElem?_set_self hlt] at hi
      exact Option.some.inj hi
    exact crcByte_flip_ne 0 b hk (by rw [hget])

/-- The register after each of the nine bytes 31h to 39h; the last value is their check (R71). -/
theorem crc_check_value : crc [0x31, 0x32, 0x33, 0x34, 0x35, 0x36, 0x37, 0x38, 0x39] = 0x29B1 := by
  have h1 : crcByte 0xFFFF#16 0x31 = 0xC782 := by decide
  have h2 : crcByte 0xC782 0x32 = 0x3DBA := by decide
  have h3 : crcByte 0x3DBA 0x33 = 0x5BCE := by decide
  have h4 : crcByte 0x5BCE 0x34 = 0x5349 := by decide
  have h5 : crcByte 0x5349 0x35 = 0x4560 := by decide
  have h6 : crcByte 0x4560 0x36 = 0x2EF4 := by decide
  have h7 : crcByte 0x2EF4 0x37 = 0x7718 := by decide
  have h8 : crcByte 0x7718 0x38 = 0xA12B := by decide
  have h9 : crcByte 0xA12B 0x39 = 0x29B1 := by decide
  simp only [crc, List.foldl_cons, List.foldl_nil, h1, h2, h3, h4, h5, h6, h7, h8, h9]

/-- Settles O33. -/
theorem frameFieldsAndVerdictReadBack : Obligations.FrameFieldsAndVerdictReadBack := by
  refine ⟨fun h rest => ⟨h.ofBytes_bytes rest, h.bytes_length, h.byte0_toNat, h.byte1_toNat, h.byte23_toNat⟩,
    ⟨judge_eq_check_iff, fun h points => ⟨fun hr hk => ?_, fun hr hk => ?_, fun hbad => ?_⟩⟩,
    fun h points i k b hk hi => ?_, crc_check_value⟩
  · exact judge_frameBody h points (Header.validKind_of_code (kind := .data) hk hr)
  · exact judge_frameBody h points (Header.validKind_of_code (kind := .leave) hk hr)
  · exact judge_frameBody_of_invalid (Header.validKind_eq_none hbad) points
  · exact (judge_eq_check_iff _).mpr (checkMatches_flip _ hk hi)

end Sys2Proof.Machine

namespace Sys2Proof.Machine

/-! ### A frame taken level by level (R67, R68, R72, R73, R76) -/

theorem Receiver.takeAll_cons_of_more {walk : Walk} {r u : Receiver} {b : Level} (h : r.take walk b = .more u)
    (levels : List Level) : r.takeAll walk (b :: levels) = u.takeAll walk levels := by
  rw [Receiver.takeAll, h]

/-- A waiting receiver takes the start bit (R72). -/
theorem Receiver.take_startBit {r : Receiver} (hr : r.state = .waiting) (hprev : r.prevRecessive = true) (walk : Walk) :
    r.take walk dominant =
      .more { r with state := .receiving, bits := [], level := dominant, runLength := 1, startWalk := walk,
                     ownMark := false, prevRecessive := false } := by
  rw [Receiver.take, hr]
  exact if_pos ⟨rfl, hprev⟩

/-- The receiver after a stuff bit, which is left out of the body (R68). -/
def Receiver.unstuffed (r : Receiver) : Receiver :=
  { r with level := !r.level, runLength := 1, prevRecessive := !r.level }

/-- The receiver with one more body bit (R68, R73). -/
def Receiver.withBit (r : Receiver) (b : Level) : Receiver :=
  { r with bits := r.bits ++ [b], level := b, runLength := if b = r.level then r.runLength + 1 else 1, prevRecessive := b }

/-- A bit of the other level after a run of four is a stuff bit (R68). -/
theorem Receiver.take_stuffBit {r : Receiver} (hr : r.state = .receiving) (hrun : r.runLength = Config.stuffRun)
    (walk : Walk) : r.take walk (!r.level) = .more r.unstuffed := by
  simp only [Receiver.take, hr, if_pos hrun, if_pos (Bool.not_ne_self r.level), Receiver.unstuffed]

theorem Receiver.take_bodyBit {r : Receiver} (hr : r.state = .receiving) (hrun : r.runLength ≠ Config.stuffRun)
    (hdone : ¬ r.bodyDone = true) (walk : Walk) (b : Level) : r.take walk b = .more (r.withBit b) := by
  simp only [Receiver.take, hr, if_neg hrun, if_neg hdone, Receiver.withBit]

/-- The end bit completes a body whose bits have all arrived (R73, R76). -/
theorem Receiver.takeAll_endBit {r : Receiver} (hr : r.state = .receiving) (hrun : r.runLength ≠ Config.stuffRun)
    (hdone : r.bodyDone = true) (walk : Walk) : r.takeAll walk [dominant] = some (.completed (bytesOfBits r.bits)) := by
  have htake : r.take walk dominant = .completed (bytesOfBits r.bits) := by
    rw [Receiver.take, hr]
    exact (if_neg hrun).trans (if_pos hdone)
  rw [Receiver.takeAll, htake]
  rfl

/-- The length that these bits announce is their own: of their beginnings, a receiver takes only the whole for a full body (R73). -/
def AnnouncesOwnLength (all : List Level) : Prop :=
  ∀ r : Receiver, r.bits <+: all → (r.bodyDone = true ↔ r.bits = all)

section
variable {all : List Level} (hall : AnnouncesOwnLength all)
include hall

theorem Receiver.take_nextBit {r : Receiver} {b : Level} {rest : List Level} (hr : r.state = .receiving)
    (hrun : r.runLength ≠ Config.stuffRun) (hbits : r.bits ++ b :: rest = all) (walk : Walk) :
    r.take walk b = .more (r.withBit b) := by
  have hnot : r.bits ≠ all := by
    intro h
    rw [h] at hbits
    exact absurd hbits (by simp)
  exact Receiver.take_bodyBit hr hrun (fun h => hnot ((hall r ⟨_, hbits⟩).mp h)) walk b

/-- Receiving undoes stuffing (R68): what is stuffed behind the bits received so far arrives bit by bit, and the end bit completes it. -/
theorem Receiver.takeAll_stuff (walk : Walk) (rest : List Level) (r : Receiver) (hr : r.state = .receiving)
    (hbits : r.bits ++ rest = all) :
    r.takeAll walk (stuff r.level r.runLength rest ++ [dominant]) = some (.completed (bytesOfBits all)) := by
  induction rest generalizing r with
  | nil =>
    rw [List.append_nil] at hbits
    subst hbits
    have hdone : r.bodyDone = true := (hall r List.prefix_rfl).mpr rfl
    by_cases hrun : r.runLength = Config.stuffRun
    · rw [stuff, if_pos hrun, List.singleton_append, Receiver.takeAll_cons_of_more (Receiver.take_stuffBit hr hrun walk)]
      exact Receiver.takeAll_endBit (r := r.unstuffed) hr (by decide : 1 ≠ Config.stuffRun) hdone walk
    · rw [stuff, if_neg hrun, List.nil_append, Receiver.takeAll_endBit hr hrun hdone]
  | cons b rest ih =>
    have hnext : (r.bits ++ [b]) ++ rest = all := by rw [List.append_assoc]; exact hbits
    by_cases hrun : r.runLength = Config.stuffRun
    · have hbit : r.unstuffed.take walk b = .more (r.unstuffed.withBit b) :=
        Receiver.take_nextBit (r := r.unstuffed) hall hr (by decide : 1 ≠ Config.stuffRun) hbits walk
      rw [stuff, if_pos hrun, List.cons_append, List.cons_append,
        Receiver.takeAll_cons_of_more (Receiver.take_stuffBit hr hrun walk), Receiver.takeAll_cons_of_more hbit]
      exact ih (r.unstuffed.withBit b) hr hnext
    · rw [stuff, if_neg hrun, List.cons_append,
        Receiver.takeAll_cons_of_more (Receiver.take_nextBit hall hr hrun hbits walk)]
      exact ih (r.withBit b) hr hnext

end

/-! ### The length a frame announces (R67, R73) -/

/-- Three bits are read alike from a frame and from a beginning of it that holds them. -/
theorem fieldOf_of_prefix {p l : List Level} (h : p <+: l) {i : Nat} (hi : i + 3 ≤ p.length) : fieldOf p i = fieldOf l i := by
  obtain ⟨q, rfl⟩ := h
  have hget (k : Nat) : (p ++ q).getD (i + 2 - k) false = p.getD (i + 2 - k) false :=
    List.getD_append _ _ _ _ (by omega)
  simp only [fieldOf, hget]

/-- The kind stands in the last three bits of a frame's first byte (R168). -/
theorem fieldOf_kind (b : Byte) (rest : List Byte) : fieldOf (bitsOfBytes (b :: rest)) 5 = b.extractLsb' 0 3 := by
  ext i hi
  interval_cases i <;> simp [fieldOf, bitsOf, bitsOfBytes, bitsOfByte, BitVec.getElem_cons]

/-- The width code stands behind the cadence in its second byte (R168). -/
theorem fieldOf_widthCode (a b : Byte) (rest : List Byte) :
    fieldOf (bitsOfBytes (a :: b :: rest)) 10 = b.extractLsb' 3 3 := by
  ext i hi
  interval_cases i <;> simp [fieldOf, bitsOf, bitsOfBytes, bitsOfByte, BitVec.getElem_cons]

theorem fieldOf_frameBody (h : Header) (points : List Byte) :
    fieldOf (bitsOfBytes (frameBody h points)) 5 = h.kind ∧ fieldOf (bitsOfBytes (frameBody h points)) 10 = h.widthCode := by
  have hread := h.ofBytes_bytes (points ++ crcBytes (h.bytes ++ points))
  exact ⟨(fieldOf_kind _ _).trans (congrArg Header.kind hread),
    (fieldOf_widthCode _ _ _).trans (congrArg Header.widthCode hread)⟩

/-- Bits of a whole frame: header, points, check (R67). -/
theorem length_frameBody (h : Header) (points : List Byte) : (frameBody h points).length = 6 + points.length := by
  simp only [frameBody, List.length_append, h.bytes_length, crcBytes_length]
  omega

/-- A whole frame's header announces its length (R67, R73). -/
theorem frameBody_announcesOwnLength {h : Header} {points : List Byte}
    (hlen : points.length = pointBytes h.kind h.widthCode) : AnnouncesOwnLength (bitsOfBytes (frameBody h points)) := by
  intro r hprefix
  have hall : (bitsOfBytes (frameBody h points)).length = 8 * (6 + pointBytes h.kind h.widthCode) := by
    rw [length_bitsOfBytes, length_frameBody, hlen]
  obtain ⟨hkind, hwidth⟩ := fieldOf_frameBody h points
  have hle := hprefix.length_le
  have hwhole : r.bits = bitsOfBytes (frameBody h points) ↔ 8 * (6 + pointBytes h.kind h.widthCode) ≤ r.bits.length :=
    ⟨fun heq => (heq ▸ hall).ge, fun hge => hprefix.eq_of_length (by omega)⟩
  have hfield (h8 : 8 ≤ r.bits.length) : fieldOf r.bits 5 = h.kind := (fieldOf_of_prefix hprefix h8).trans hkind
  rw [hwhole, Receiver.bodyDone, expectedBits]
  by_cases h8 : r.bits.length < 8
  · rw [if_pos h8]
    exact iff_of_false nofun (by omega)
  rw [if_neg h8, hfield (by omega)]
  by_cases hdata : h.kind = FrameKind.code .data
  · rw [if_neg (not_not.mpr hdata), pointBytes, if_pos hdata]
    by_cases h16 : r.bits.length < 16
    · rw [if_pos h16]
      exact iff_of_false nofun (by omega)
    · rw [if_neg h16, fieldOf_of_prefix hprefix (by omega), hwidth]
      exact decide_eq_true_iff
  · rw [if_pos hdata, pointBytes, if_neg hdata]
    exact decide_eq_true_iff

/-! ### Runs on the line (R68) -/

/-- No run reaches five equal bits in bits that follow a run of `run` bits of `level`. -/
def ShortRuns (level : Level) (run : Nat) : List Level → Prop
  | [] => True
  | b :: bs => (if b = level then run + 1 else 1) ≤ 4 ∧ ShortRuns b (if b = level then run + 1 else 1) bs

/-- Stuffed bits and the end bit behind them keep every run short (R68). -/
theorem shortRuns_stuff (level : Level) (run : Nat) (bits : List Level) (hrun : run ≤ 4) :
    ShortRuns level run (stuff level run bits ++ [dominant]) := by
  induction bits generalizing level run with
  | nil =>
    by_cases h : run = Config.stuffRun
    · rw [stuff, if_pos h]
      cases level <;> simp [ShortRuns]
    · have hlt : run ≠ 4 := h
      rw [stuff, if_neg h]
      refine ⟨?_, trivial⟩
      split <;> omega
  | cons b bits ih =>
    by_cases h : run = Config.stuffRun
    · have hfirst : (if (!level) = level then run + 1 else 1) = 1 := if_neg (Bool.not_ne_self level)
      have hle : (if b = !level then 2 else 1) ≤ 4 := by split <;> decide
      rw [stuff, if_pos h, List.cons_append, List.cons_append, ShortRuns, hfirst]
      exact ⟨by decide, hle, ih b _ hle⟩
    · have hlt : run ≠ 4 := h
      have hle : (if b = level then run + 1 else 1) ≤ 4 := by split <;> omega
      rw [stuff, if_neg h]
      exact ⟨hle, ih _ _ hle⟩

theorem shortRuns_lineBits (body : List Byte) : ShortRuns dominant 0 (lineBits body) :=
  ⟨by decide, shortRuns_stuff dominant 1 (bitsOfBytes body) (by decide)⟩

/-- Five equal bits anywhere are a run that is not short. -/
theorem ShortRuns.ne_five {level : Level} {run : Nat} {bits : List Level} (h : ShortRuns level run bits)
    (before after : List Level) (five : Level) : bits ≠ before ++ List.replicate 5 five ++ after := by
  rintro rfl
  induction before generalizing level run with
  | nil =>
    have hpos : 1 ≤ if five = level then run + 1 else 1 := by split <;> omega
    obtain ⟨-, -, -, -, hfive, -⟩ := h
    simp only [eq_self, if_true] at hfive
    omega
  | cons b before ih => exact ih h.2

/-- Settles O35. -/
theorem sentFrameIsReceivedWhole : Obligations.SentFrameIsReceivedWhole := by
  refine ⟨fun r walk h points hr hprev hlen => ?_, fun body before after level => ?_⟩
  · have hall := frameBody_announcesOwnLength hlen
    have hstart := Receiver.takeAll_cons_of_more (Receiver.take_startBit hr hprev walk)
      (stuff dominant 1 (bitsOfBytes (frameBody h points)) ++ [dominant])
    refine hstart.trans ((Receiver.takeAll_stuff hall walk _ _ rfl rfl).trans ?_)
    rw [bytesOfBits_bitsOfBytes]
  · exact (shortRuns_lineBits body).ne_five before after level

end Sys2Proof.Machine

end

section
/-! PROOFS of the statements on the station's states, the responses of the tap and the entries to LOADING. -/

-- One proof after another, as in the files before (each elaboration thread reserves a stack of its own).
set_option Elab.async false

namespace Sys2Proof.Machine

/-! ### The station controller at a close (R111, R112, R114) -/

theorem Member.gone_iff (r : Member) : r.gone = true ↔ r.presence = .absent ∨ r.presence = .unseen := by
  rw [Member.gone, Bool.not_eq_true', Member.onLine_eq_false_iff, or_comm]

/-- A count below L grows where the own record is gone (R112). -/
theorem State.controlAtClose_of_listen_below {cfg : Configuration} {s : State} {count : Nat}
    (hst : s.ctl.station = .listen count) (hgone : (s.member cfg.own).gone = true) (hbelow : count + 1 < cfg.listen) :
    s.controlAtClose cfg = { s with ctl := { s.ctl with station := .listen (count + 1) } } := by
  rw [State.controlAtClose, hst]
  exact (if_pos hgone).trans (if_neg (Nat.not_le.mpr hbelow))

/-- The count that reaches L makes the station ACTIVE (R112). -/
theorem State.controlAtClose_of_listen_done {cfg : Configuration} {s : State} {count : Nat}
    (hst : s.ctl.station = .listen count) (hgone : (s.member cfg.own).gone = true) (hdone : cfg.listen ≤ count + 1) :
    s.controlAtClose cfg = s.moveTo .active := by
  rw [State.controlAtClose, hst]
  exact (if_pos hgone).trans (if_pos hdone)

/-- DUPLICATE returns to LISTEN where the own record is gone (R114). -/
theorem State.controlAtClose_of_duplicate {cfg : Configuration} {s : State} (hst : s.ctl.station = .duplicate)
    (hgone : (s.member cfg.own).gone = true) : s.controlAtClose cfg = s.moveToListen := by
  rw [State.controlAtClose, hst]
  exact if_pos hgone

/-- An own record that is not gone holds the station where it is (R112, R114). -/
theorem State.controlAtClose_of_not_gone {cfg : Configuration} {s : State} (hgone : ¬ (s.member cfg.own).gone = true) :
    s.controlAtClose cfg = s := by
  unfold State.controlAtClose
  split
  · exact if_neg hgone
  · exact if_neg hgone
  all_goals rfl

/-- Outside LISTEN and DUPLICATE the station controller takes no part in a close (R111). -/
theorem State.controlAtClose_elsewhere (cfg : Configuration) {s : State} (hlisten : ∀ count, s.ctl.station ≠ .listen count)
    (hdup : s.ctl.station ≠ .duplicate) : s.controlAtClose cfg = s := by
  unfold State.controlAtClose
  split
  · rename_i count hst; exact absurd hst (hlisten count)
  · rename_i hst; exact absurd hst hdup
  all_goals rfl

/-- The record that the station controller judges is the record as the close leaves it (R7, R111). -/
theorem State.closeWork_member_evaluated (cfg : Configuration) (cut : Option Cursor) (s : State) (n : StationNo) :
    (s.closeWork cfg cut).member n = (s.evaluatedAtClose cfg cut).member n :=
  State.member_congr (State.closeWork_img cfg cut s) n

/-- Settles O19. -/
theorem closeCountsListenRounds : Obligations.CloseCountsListenRounds := by
  intro s cfg cut _ t gone
  let u := s.evaluatedAtClose cfg cut
  have hctl : u.ctl = s.ctl := State.evaluatedAtClose_ctl cfg cut s
  have htx : u.tx = s.tx := State.evaluatedAtClose_tx cfg cut s
  have ht : t.ctl = (u.controlAtClose cfg).ctl ∧ t.tx = (u.controlAtClose cfg).tx :=
    ⟨State.closeWork_ctl cfg cut s, State.closeWork_tx cfg cut s⟩
  have hgone : (u.member cfg.own).gone = true ↔ gone := by
    rw [Member.gone_iff, ← State.closeWork_member_evaluated]
  have hstays (h : ¬ gone) : t.ctl = s.ctl := by
    rw [ht.1, State.controlAtClose_of_not_gone (mt hgone.mp h), hctl]
  rw [← hctl] at hstays ⊢
  refine ⟨fun count hst => ⟨fun hg hbelow => ?_, fun hg hdone => ?_, hstays⟩,
    fun hst => ⟨fun hg => ?_, hstays⟩, fun hlisten hdup => ?_⟩
  · rw [ht.1, State.controlAtClose_of_listen_below hst (hgone.mpr hg) hbelow]
  · rw [ht.1, State.controlAtClose_of_listen_done hst (hgone.mpr hg) hdone]
    rfl
  · rw [ht.1, ht.2, State.controlAtClose_of_duplicate hst (hgone.mpr hg)]
    exact ⟨rfl, rfl⟩
  · rw [ht.1, ht.2, State.controlAtClose_elsewhere cfg hlisten hdup]
    exact ⟨rfl, htx⟩

end Sys2Proof.Machine

namespace Sys2Proof.Machine

/-! ### The status byte at chip select falling (R157) -/

theorem Station.code_le (st : Station) : st.code ≤ 6 := by cases st <;> simp [Station.code]

theorem TapResult.code_le (r : TapResult) : r.code ≤ 3 := by cases r <;> decide

theorem byteOf_toNat {n : Nat} (h : n < 256) : (byteOf n).toNat = n :=
  (BitVec.toNat_ofNat n 8).trans (Nat.mod_eq_of_lt h)

theorem State.attn_toNat {s : State} (hp : s.power = .running) :
    s.attn.toNat = if s.tap.queue = [] then 0 else 1 := by
  rw [State.attn, decide_eq_true hp, Bool.true_and]
  cases s.tap.queue <;> rfl

/-- The five fields of the status byte stand side by side (R170). -/
theorem State.statusByte_toNat (s : State) :
    s.statusByte.toNat =
      32 * s.ctl.station.code + 16 * s.attn.toNat + 4 * s.tap.lastResult.code + 2 * s.ctl.withdrawalPending.toNat +
        s.img.repackPending.toNat := by
  have hcode := s.ctl.station.code_le
  have hresult := s.tap.lastResult.code_le
  have hattn := s.attn.toNat_le
  have hpending := s.ctl.withdrawalPending.toNat_le
  have hrepack := s.img.repackPending.toNat_le
  rw [State.statusByte, byteOf_toNat (by omega)]
  omega

/-- Settles O45. -/
theorem chipSelectOpensTransaction : Obligations.ChipSelectOpensTransaction := by
  intro s
  refine ⟨fun hp hcs hidle => ?_, fun hno => ?_, ?_⟩
  · refine ⟨s.statusByte, _, if_pos ⟨hp, hcs, hidle⟩, rfl, if_pos ⟨hp, rfl⟩, ?_⟩
    rw [State.statusByte_toNat, State.attn_toNat hp]
  · refine if_neg fun ⟨hp, hcs, _⟩ => ?_
    rcases hno with hno | hno
    · exact hno hp
    · exact absurd hno (Bool.eq_false_iff.mp hcs)
  · unfold State.tapDo
    split
    · rename_i h
      refine iff_of_false ?_ (by simp [h])
      split <;> exact Option.some_ne_none _
    · rename_i h
      exact iff_of_true rfl (by rwa [not_and_or, Bool.not_eq_true] at h)

end Sys2Proof.Machine

namespace Sys2Proof.Machine

/-! ### The entries to LOADING by a tap command (R109, R110, R146) -/

/-- RESTART at the rising edge of a transaction that holds it (R109, R156). -/
theorem exec_restart_held {s : State} {l : Latch} (h : s.holds 0x14 [] l) (clocks : Nat) :
    exec (.restart (.rising clocks)) s = .next (s.shiftedOut (s.outAfter 0 l clocks)).restartEffect.endTransaction :=
  congrArg _ (State.tapCommand_held h rfl clocks noResponse noTake fun _ s => s.restartEffect)

/-- LOAD CONFIG at the rising edge of a transaction that holds all of its 512 bytes (R110, R146, R156). -/
theorem exec_loadConfig_held {s : State} {l : Latch} {image : List Byte} (hlen : image.length = 512)
    (h : s.holds 0x20 image l) (clocks : Nat) :
    exec (.loadConfig image (.rising clocks)) s =
      .next ((s.shiftedOut (s.outAfter 512 l clocks)).loadEffect image).endTransaction := by
  have htake : image.take Config.imageBytes = image := List.take_of_length_le hlen.le
  have hheld := State.tapCommand_held h (congrArg some hlen.symm) clocks noResponse noTake fun _ s => s.loadEffect image
  rw [hlen] at hheld
  simp only [exec, execLoadConfig, htake]
  exact (if_pos hlen).trans (congrArg _ hheld)

/-- The STATE event of an entry to LOADING meets no mask: it is placed at round count 0 (R106, R109, R110, R163). -/
theorem State.postLoading_eq {s : State} (detail : Nat) (hconfig : s.ldr.config = none) (hround : s.trk.round = 0) :
    s.postLoading detail = { s with tap := s.tap.place (loadingEvent (BitVec.ofNat 10 detail)) } := by
  have hallows : s.allows .state = true := by rw [State.allows, hconfig]
  rw [State.postLoading, State.post, if_pos hallows, hround]
  rfl

theorem Loader.begin_eq (again : Bool) (strap : Strap) :
    Loader.begin again strap =
      { phase := if strap = .memory then .reading else .waiting, buffer := [], config := none
        command := if strap = .memory then [0x03, 0x00, 0x00] else []
        selectLow := decide (strap = .memory) && !again } := by
  cases strap <;> rfl

/-- Only queue, loss mark and lost-event count move as an event is placed (R163). -/
theorem Tap.place_frame (t : Tap) (e : Event) :
    t.place e =
      { t with queue := (t.place e).queue, lossMark := (t.place e).lossMark, lostEvents := (t.place e).lostEvents } := by
  unfold Tap.place
  split <;> rfl

/-- A transaction that ends with nothing staged, an event placed in it before: the event placed after its end (R156, R163). -/
theorem Tap.place_ended {t : Tap} (hstaged : t.staged = none) (e : Event) :
    ({ t.place e with
      trans := .idle, staged := none, published := (t.place e).staged.getD (t.place e).published } : Tap) =
      ({ t with trans := .idle } : Tap).place e := by
  by_cases hroom : t.queue.length < Config.queueRoom
  · rw [Tap.place_of_room t e hroom, Tap.place_of_room { t with trans := .idle } e hroom, hstaged]
    rfl
  · rw [Tap.place_of_full t e hroom, Tap.place_of_full { t with trans := .idle } e hroom, hstaged]
    rfl

/-- RESTART in full, at the end of its transaction (R109, R147, R155). -/
theorem State.restartEffect_endTransaction (s : State) :
    s.restartEffect.endTransaction =
      { s.atLoading s.strap
          { Controller.reset with lastStop := s.ctl.lastStop, restarts := min (s.ctl.restarts + 1) 255 }
          (Loader.begin s.reads s.strap)
          { Tap.reset with
            queue := [loadingEvent 0x02], lastResult := .accepted, status := s.tap.status, dout := s.tap.dout }
          Counters.zero with
        tapSelectLow := false } := by
  have hconfig : (Loader.begin s.reads s.strap).config = none := by cases s.strap <;> rfl
  rw [State.restartEffect, State.postLoading_eq _ hconfig rfl, State.endTransaction_eq]
  rfl

/-- What stays in the tap at the entry to LOADING by LOAD CONFIG, its transaction ended, before the STATE event (R110, R155). -/
def Tap.kept (t : Tap) : Tap :=
  { Tap.reset with
    queue := t.queue, lossMark := t.lossMark, lostEvents := t.lostEvents, lastResult := .accepted, status := t.status
    dout := t.dout }

/-- The entry to LOADING by LOAD CONFIG in full, at the end of its transaction (R110, R155). -/
theorem State.loadEntry_endTransaction (image : List Byte) (s : State) :
    (s.loadEntry image).endTransaction =
      { s.atLoading s.strap
          { Controller.reset with lastStop := s.ctl.lastStop, restarts := s.ctl.restarts }
          { phase := .checking, buffer := image, config := none } (s.tap.kept.place (loadingEvent 0x03)) s.cnt with
        tapSelectLow := false } := by
  rw [State.loadEntry, State.postLoading_eq _ rfl rfl, State.endTransaction_eq, Tap.place_ended rfl]
  rfl

theorem State.loadEffect_of_waiting {image : List Byte} {s : State} (hloading : s.ctl.station = .loading)
    (hwaiting : s.ldr.phase = .waiting) :
    s.loadEffect image = State.result .accepted { s with ldr := { s.ldr with phase := .checking, buffer := image } } := by
  rw [State.loadEffect, hloading, hwaiting]

theorem State.loadEffect_of_busy {image : List Byte} {s : State} (hloading : s.ctl.station = .loading)
    (hbusy : s.ldr.phase ≠ .waiting) : s.loadEffect image = s.result .refused := by
  rcases State.loadEffect_cases image s with ⟨-, hwaiting, -⟩ | ⟨-, -, he⟩ | ⟨hnot, -⟩
  · exact absurd hwaiting hbusy
  · exact he
  · exact absurd hloading hnot

theorem State.loadEffect_of_configured {image : List Byte} {s : State} (hnot : s.ctl.station ≠ .loading) :
    s.loadEffect image = s.loadEntry image := by
  rcases State.loadEffect_cases image s with ⟨hloading, -⟩ | ⟨hloading, -⟩ | ⟨-, he⟩
  · exact absurd hloading hnot
  · exact absurd hloading hnot
  · exact he

/-- Settles O51. -/
theorem restartAndLoadConfigEnterLoading : Obligations.RestartAndLoadConfigEnterLoading := by
  refine ⟨fun s l clocks h => ?_, fun s l clocks image hlen h => ?_⟩
  · have hselect : (decide (s.strap = .memory) && !s.reads) =
        decide (s.strap = .memory ∧ ¬ (s.ldr.phase = .reading ∧ s.ldr.selectLow = true)) := by
      simp [State.reads]
    rw [exec_restart_held h, State.restartEffect_endTransaction, Loader.begin_eq, ← hselect]
    rfl
  · intro out
    rw [exec_loadConfig_held hlen h]
    refine ⟨fun hloading hwaiting => ended_of_effect (State.loadEffect_of_waiting hloading hwaiting),
      fun hloading hbusy => ended_of_effect (State.loadEffect_of_busy hloading hbusy), fun hnot => ?_⟩
    rw [State.loadEffect_of_configured (s := s.shiftedOut (s.outAfter 512 l clocks)) hnot,
      State.loadEntry_endTransaction]
    let tap := (s.shiftedOut out).tap.kept
    refine ⟨s.atLoading s.strap { Controller.reset with lastStop := s.ctl.lastStop, restarts := s.ctl.restarts }
      { phase := .checking, buffer := image, config := none } (tap.place (loadingEvent 0x03)) s.cnt,
      rfl, rfl, Tap.place_frame tap (loadingEvent 0x03), fun hroom => ?_, fun hfull => ?_⟩
    · have hplace := Tap.place_of_room tap (loadingEvent 0x03) hroom
      exact ⟨hplace ▸ rfl, hplace ▸ rfl, hplace ▸ rfl⟩
    · have hplace := Tap.place_of_full tap (loadingEvent 0x03) (Nat.not_lt.mpr hfull)
      exact ⟨hplace ▸ rfl, hplace ▸ rfl, hplace ▸ rfl⟩

end Sys2Proof.Machine

namespace Sys2Proof.Machine

/-! ### How the station becomes ACTIVE (R111, R112) -/

/-- From `s` to `t` the station does not become ACTIVE. -/
def KeepsInactive (s t : State) : Prop := t.ctl.station = .active → s.ctl.station = .active

namespace KeepsInactive

theorem refl (s : State) : KeepsInactive s s := id

theorem trans {s t u : State} (h : KeepsInactive s t) (h' : KeepsInactive t u) : KeepsInactive s u := h ∘ h'

theorem of_ctl {s t : State} (h : t.ctl = s.ctl) : KeepsInactive s t := fun ht => h ▸ ht

theorem of_ne {s t : State} (h : t.ctl.station ≠ .active) : KeepsInactive s t := fun ht => absurd ht h

end KeepsInactive

/-- A lost attempt leaves the station where it is, or leads out of ACTIVE (R97, R119). -/
theorem State.attemptLost_station (s : State) :
    s.attemptLost.ctl.station = s.ctl.station ∨ s.attemptLost.ctl.station = .withdrawn ∨
      s.attemptLost.ctl.station = .lineFault .tx := by
  simp only [State.attemptLost]
  split
  · exact .inr (.inr (State.enterTxFault_station _))
  · split
    · exact .inr (.inl (by simp))
    · exact .inl rfl

theorem State.attemptLost_walk (s : State) : s.attemptLost.trk.walk = s.trk.walk := by
  simp only [State.attemptLost]
  split
  · simp [State.enterTxFault, RoundTracker.stopTimer]
  · split <;> simp

theorem State.loseUnderMark_station (s : State) :
    s.loseUnderMark.ctl.station = s.ctl.station ∨ s.loseUnderMark.ctl.station = .withdrawn ∨
      s.loseUnderMark.ctl.station = .lineFault .tx := by
  unfold State.loseUnderMark
  split
  · exact s.attemptLost_station
  · exact .inl rfl

theorem State.loseUnderMark_walk (s : State) : s.loseUnderMark.trk.walk = s.trk.walk := by
  unfold State.loseUnderMark
  split
  · exact s.attemptLost_walk
  · rfl

theorem State.attemptLost_keepsInactive (s : State) : KeepsInactive s s.attemptLost := by
  rcases s.attemptLost_station with h | h | h
  · exact fun ht => h ▸ ht
  · exact .of_ne (by simp [h])
  · exact .of_ne (by simp [h])

theorem State.loseUnderMark_keepsInactive (s : State) : KeepsInactive s s.loseUnderMark := by
  unfold State.loseUnderMark
  split
  · exact s.attemptLost_keepsInactive
  · exact .refl s

theorem State.settleTakenOver_keepsInactive (own : Bool) (s : State) : KeepsInactive s (s.settleTakenOver own) := by
  unfold State.settleTakenOver
  repeat' split
  · exact .refl s
  · exact s.attemptLost_keepsInactive
  · exact .refl s

theorem State.attemptWasSent_keepsInactive (s : State) : KeepsInactive s s.attemptWasSent := by
  simp only [State.attemptWasSent]
  split
  · exact .of_ne (by simp)
  · exact .refl s

/-! ### Frames -/

theorem State.handOn_keepsInactive (cfg : Configuration) (kind : FrameKind) (h : Header) (points : List Byte) (s : State) :
    KeepsInactive s (s.handOn cfg kind h points) := by
  by_cases hn : h.station = cfg.own
  · rw [State.handOn_own hn, State.sighting]
    generalize (s.member cfg.own).sighted kind h.cadence = r
    rcases (s.setMember cfg.own r).noteSighting_cases with ⟨-, hs⟩ | ⟨-, -, -, hs⟩ <;> rw [hs]
    · exact .of_ne (by simp)
    · exact .refl s
  · cases kind with
    | data => exact .of_ctl (by rw [State.handOn_data hn, State.peerData_ctl])
    | leave => exact .of_ctl (by rw [State.handOn_leave hn, State.peerLeave_ctl])

theorem State.sortFrame_keepsInactive (cfg : Configuration) (start : Walk) (kind : FrameKind) (h : Header)
    (points : List Byte) (s : State) : KeepsInactive s (s.sortFrame cfg start kind h points) := by
  cases start with
  | idle => exact .refl s
  | closed => exact .refl s
  | opened cursor =>
    simp only [State.sortFrame]
    repeat' split
    · exact .refl s
    · exact State.handOn_keepsInactive cfg kind h points s
    · exact (KeepsInactive.of_ctl (State.slip_ctl cfg cursor h.station s)).trans (State.handOn_keepsInactive _ _ _ _ _)
    · exact State.handOn_keepsInactive cfg kind h points (s.count Counters.bumpOutOfSlot)

theorem State.countAndSort_keepsInactive (cfg : Configuration) (start : Walk) (v : Verdict) (s : State) :
    KeepsInactive s (s.countAndSort cfg start v) := by
  unfold State.countAndSort
  split
  · cases v with
    | check => exact .refl s
    | header => exact .refl s
    | valid kind h points => exact State.sortFrame_keepsInactive cfg start kind h points (s.count Counters.bumpGood)
  · exact .refl s

theorem State.foreignFrame_keepsInactive (cfg : Configuration) (start : Walk) (body : List Byte) (lossFirst : Bool)
    (s : State) : KeepsInactive s (s.foreignFrame cfg start body lossFirst) := by
  simp only [State.foreignFrame]
  split
  · exact (State.settleTakenOver_keepsInactive _ s).trans (State.countAndSort_keepsInactive _ _ _ _)
  · exact (State.countAndSort_keepsInactive _ _ _ s).trans (State.settleTakenOver_keepsInactive _ _)

/-! ### The tap -/

/-- A tap command makes the station ACTIVE only if its effect does (R156). -/
theorem State.tapCommand_keepsInactive {code : Nat} {args : List Byte} {part : TapPart} {response : State → List Byte}
    {take : State → Nat} {effect : Latch → State → State} (s : State) (he : ∀ l u, KeepsInactive u (effect l u)) :
    KeepsInactive s (s.tapCommand code args part response take effect) := by
  rcases s.tapCommand_cases code args part response take effect with
    h | h | ⟨o, clocks, _, h⟩ | ⟨l, o, clocks, _, h⟩ <;> rw [h]
  · exact .refl s
  · exact .refl s
  · exact .refl s
  · exact (he l (s.transact o clocks)).trans (.of_ctl (State.endTransaction_ctl _))

theorem State.withdrawEffect_keepsInactive (s : State) : KeepsInactive s s.withdrawEffect := by
  rcases s.withdrawEffect_cases with ⟨_, _, h⟩ | h <;> rw [h] <;> exact .refl s

theorem State.rejoinEffect_keepsInactive (s : State) : KeepsInactive s s.rejoinEffect := by
  rcases s.rejoinEffect_cases with ⟨_, _, h⟩ | ⟨_, h⟩ | h <;> rw [h]
  · exact .refl s
  · exact .of_ne (by simp)
  · exact .refl s

theorem State.loadEffect_keepsInactive (image : List Byte) (s : State) : KeepsInactive s (s.loadEffect image) := by
  rcases s.loadEffect_cases image with ⟨_, _, h⟩ | ⟨_, _, h⟩ | ⟨_, h⟩ <;> rw [h]
  · exact .refl s
  · exact .refl s
  · exact .of_ne (by simp [State.loadEntry, Controller.reset])

/-! ### The commands -/

/-- No command but a slot boundary or a mark recognised, which bring the closes (R55, R56), makes the station ACTIVE. -/
theorem exec_keepsInactive {c : Instr} {s t : State} (hb : c ≠ .slotBoundary) (hm : ∀ first, c ≠ .markRecognised first)
    (h : exec c s = .next t) : KeepsInactive s t := by
  cases c with
  | slotBoundary => exact absurd rfl hb
  | markRecognised first => exact absurd rfl (hm first)
  | powerOn strap => cases h; exact .of_ne (by simp [State.boot_eq, State.atLoading, Controller.reset])
  | resetNLow => cases h; exact .of_ne nofun
  | resetNRising strap =>
    simp only [exec, execResetNRising] at h
    split at h <;> cases h
    · exact .of_ne (by simp [State.boot_eq, State.atLoading, Controller.reset])
    · exact .of_ne (by simp [State.boot_eq, State.atLoading, Controller.reset])
    · exact .refl s
  | readingComplete bytes =>
    simp only [exec, execReadingComplete] at h
    split at h <;> cases h <;> exact .refl s
  | checkingComplete raw =>
    simp only [exec, execCheckingComplete] at h
    split at h
    · split at h <;> cases h
      · exact .of_ne (by simp [State.configGood])
      · exact .of_ne (by simp [State.configBad])
    all_goals cases h; exact .refl s
  | roundTimerExpiry =>
    simp only [exec, execRoundTimerExpiry] at h
    repeat' split at h
    all_goals cases h; exact .refl s
  | markBegin =>
    simp only [exec, execMarkBegin] at h
    split at h <;> cases h <;> exact .refl s
  | markFailed => cases h; exact .refl s
  | markRelease => cases h; exact .refl s
  | markEnd =>
    simp only [exec, execMarkEnd] at h
    split at h <;> cases h <;> exact .refl s
  | startBit taken =>
    simp only [exec, execStartBit] at h
    repeat' split at h
    all_goals cases h; exact .refl s
  | collision bit =>
    simp only [exec, execCollision] at h
    split at h <;> cases h
    · exact .of_ctl (State.foreignFrom_ctl bit s)
    · exact .refl s
  | transceiverFault bit =>
    simp only [exec, execTransceiverFault] at h
    split at h <;> cases h
    · exact (KeepsInactive.of_ctl (State.foreignFrom_ctl bit s)).trans (State.attemptLost_keepsInactive _)
    · exact .refl s
  | attemptSent =>
    simp only [exec, execAttemptSent] at h
    split at h <;> cases h
    · exact State.attemptWasSent_keepsInactive { s with rx := Receiver.idleAfter dominant }
    · exact .refl s
  | frameReceived levels first =>
    simp only [exec, execFrameReceived] at h
    split at h
    · cases h; exact .refl s
    split at h
    · split at h
      · split at h <;> cases h
        · exact .refl s
        · exact State.foreignFrame_keepsInactive _ _ _ _ { s with rx := Receiver.idleAfter dominant }
      all_goals cases h; exact .refl s
    · cases h; exact .refl s
  | badFrame levels =>
    simp only [exec, execBadFrame] at h
    split at h
    · cases h; exact .refl s
    split at h
    · split at h
      · cases h
        refine .trans (.of_ctl ?_) (State.settleTakenOver_keepsInactive _ _)
        split <;> rfl
      all_goals cases h; exact .refl s
    · cases h; exact .refl s
  | stuck =>
    simp only [exec, execStuck] at h
    split at h <;> cases h
    · exact .of_ne (by simp [State.enterStuck])
    · exact .refl s
  | lineClear =>
    simp only [exec, execLineClear] at h
    repeat' split at h
    all_goals cases h
    · exact .of_ne (by simp)
    · exact .of_ne (by simp)
    · exact .refl s
  | tick sample =>
    simp only [exec, execTick] at h
    split at h <;> cases h
    · exact .of_ctl (State.acceptInputs_ctl _ _ s)
    · exact .refl s
    · exact .refl s
  | inputAccepted =>
    simp only [exec, execInputAccepted] at h
    split at h <;> cases h
    · exact .of_ctl (State.acceptInputs_ctl _ _ s)
    · exact .refl s
    · exact .refl s
  | chipSelectFalling =>
    simp only [exec, execChipSelectFalling] at h
    split at h <;> cases h <;> exact .refl s
  | readStatus part => cases h; exact s.tapCommand_keepsInactive fun l u => .of_ctl (readEffect_ctl _ l u)
  | readCounters part => cases h; exact s.tapCommand_keepsInactive fun l u => .of_ctl (readEffect_ctl _ l u)
  | readRoster first last part => cases h; exact s.tapCommand_keepsInactive fun l u => .of_ctl (readEffect_ctl _ l u)
  | readPoints station part => cases h; exact s.tapCommand_keepsInactive fun l u => .of_ctl (readEffect_ctl _ l u)
  | readTerms part => cases h; exact s.tapCommand_keepsInactive fun l u => .of_ctl (readEffect_ctl _ l u)
  | takeEvents n part => cases h; exact s.tapCommand_keepsInactive fun l u => .of_ctl (takeEffect_ctl _ l u)
  | withdraw part => cases h; exact s.tapCommand_keepsInactive fun _ => State.withdrawEffect_keepsInactive
  | rejoin part => cases h; exact s.tapCommand_keepsInactive fun _ => State.rejoinEffect_keepsInactive
  | repack part => cases h; exact s.tapCommand_keepsInactive fun _ u => .of_ctl u.repackEffect_ctl
  | clearCounters part => cases h; exact s.tapCommand_keepsInactive fun _ u => .of_ctl u.clearEffect_ctl
  | restart part =>
    cases h
    exact s.tapCommand_keepsInactive fun _ u => .of_ne (by simp [State.restartEffect, Controller.reset])
  | loadConfig image part =>
    simp only [exec, execLoadConfig] at h
    split at h
    · cases h; exact s.tapCommand_keepsInactive fun _ => State.loadEffect_keepsInactive _
    · split at h <;> cases h <;> exact .of_ctl (by simp)
  | malformed bits =>
    simp only [exec, execMalformed] at h
    repeat' split at h
    all_goals cases h; exact .of_ctl (by simp)

/-! ### The closes -/

/-- The station controller makes the station ACTIVE only in LISTEN with its last round heard and the own record gone (R112). -/
theorem State.controlAtClose_activates {cfg : Configuration} {s : State} (hs : s.ctl.station ≠ .active)
    (ht : (s.controlAtClose cfg).ctl.station = .active) :
    (∃ count, s.ctl.station = .listen count ∧ cfg.listen ≤ count + 1) ∧ (s.member cfg.own).onLine = false := by
  unfold State.controlAtClose at ht
  split at ht
  · rename_i count hst
    split at ht
    · rename_i hgone
      split at ht
      · exact ⟨⟨count, hst, ‹_›⟩, by simpa [Member.gone] using hgone⟩
      · cases ht
    · exact absurd ht hs
  · split at ht
    · simp at ht
    · exact absurd ht hs
  all_goals exact absurd ht hs

/-- What a close that makes the station ACTIVE found and leaves (R55, R56, R111, R112). -/
structure ActivatedAtClose (cfg : Configuration) (s t : State) : Prop where
  listened : ∃ count, s.ctl.station = .listen count ∧ cfg.listen ≤ count + 1
  gone : (t.member cfg.own).onLine = false
  wasOpen : ∃ cursor, s.trk.walk = .opened cursor
  closed : t.trk.walk = .closed

/-- A close with the walk closed before its work: it makes the station ACTIVE only so. -/
theorem State.closeWork_activates {cfg : Configuration} {cut : Option Cursor} {cursor : Cursor} {s u : State}
    (hopen : s.trk.walk = .opened cursor) (hctl : u.ctl = s.ctl) (hclosed : u.trk.walk = .closed)
    (hs : s.ctl.station ≠ .active) (ht : (u.closeWork cfg cut).ctl.station = .active) :
    ActivatedAtClose cfg s (u.closeWork cfg cut) := by
  rw [State.closeWork_ctl] at ht
  obtain ⟨hlistened, hgone⟩ := State.controlAtClose_activates (by rwa [State.evaluatedAtClose_ctl, hctl]) ht
  rw [State.evaluatedAtClose_ctl, hctl] at hlistened
  exact ⟨hlistened, by rwa [State.closeWork_member_evaluated], ⟨cursor, hopen⟩, by rwa [State.closeWork_trk]⟩

theorem State.boundary_activates {cfg : Configuration} {cursor : Cursor} {s : State} (hopen : s.trk.walk = .opened cursor)
    (hs : s.ctl.station ≠ .active) (ht : (s.boundary cfg cursor).ctl.station = .active) :
    ActivatedAtClose cfg s (s.boundary cfg cursor) := by
  simp only [State.boundary] at ht ⊢
  split
  · rename_i hlast
    rw [if_pos hlast] at ht
    exact State.closeWork_activates hopen rfl rfl hs ht
  · rename_i hmore
    rw [if_neg hmore] at ht
    refine absurd ?_ hs
    split at ht
    · rwa [(State.openOwnSlot_quiet cfg _).station] at ht
    · exact ht

theorem State.cutIfOpen_activates {cfg : Configuration} {s : State} (hs : s.ctl.station ≠ .active)
    (ht : (s.cutIfOpen cfg).ctl.station = .active) : ActivatedAtClose cfg s (s.cutIfOpen cfg) := by
  unfold State.cutIfOpen at ht ⊢
  split at ht
  · rename_i cursor hopen
    have hctl : (if cursor.below cfg.own then s.passedUnopened cfg else s).ctl = s.ctl := by
      split
      · exact State.passedUnopened_ctl cfg s
      · rfl
    exact State.closeWork_activates hopen hctl rfl hs ht
  · exact absurd ht hs
  · exact absurd ht hs

/-- The cut makes the station ACTIVE in the same way whichever of loss and cut is taken first (R97). -/
theorem State.markRecognised_activates {cfg : Configuration} {s : State} (hs : s.ctl.station ≠ .active) :
    ((s.loseUnderMark.cutIfOpen cfg).ctl.station = .active → ActivatedAtClose cfg s (s.loseUnderMark.cutIfOpen cfg)) ∧
      ((s.cutIfOpen cfg).loseUnderMark.ctl.station = .active → ActivatedAtClose cfg s (s.cutIfOpen cfg).loseUnderMark) := by
  refine ⟨fun ht => ?_, fun ht => ?_⟩
  · have hlost : s.loseUnderMark.ctl.station ≠ .active := mt s.loseUnderMark_keepsInactive hs
    obtain ⟨⟨count, hst, hdone⟩, hgone, ⟨cursor, hopen⟩, hclosed⟩ := State.cutIfOpen_activates hlost ht
    rcases s.loseUnderMark_station with h | h | h <;> rw [h] at hst
    · exact ⟨⟨count, hst, hdone⟩, hgone, ⟨cursor, s.loseUnderMark_walk ▸ hopen⟩, hclosed⟩
    · cases hst
    · cases hst
  · have hcut := (s.cutIfOpen cfg).loseUnderMark_keepsInactive ht
    obtain ⟨hlistened, hgone, hopen, hclosed⟩ := State.cutIfOpen_activates hs hcut
    refine ⟨hlistened, ?_, hopen, ?_⟩
    · rwa [State.member_congr (State.loseUnderMark_img _)]
    · rwa [State.loseUnderMark_walk]

/-- A command makes the station ACTIVE only by a close. -/
theorem exec_activates {c : Instr} {cfg : Configuration} {s t : State} (hcfg : s.ldr.config = some cfg)
    (h : exec c s = .next t) (hs : s.ctl.station ≠ .active) (ht : t.ctl.station = .active) : ActivatedAtClose cfg s t := by
  by_cases hb : c = .slotBoundary
  · subst hb
    simp only [exec, execSlotBoundary, hcfg] at h
    split at h <;> cases h
    · rename_i cursor hcfg' hopen
      cases hcfg'
      have hsaw : s.sawRecessive.ctl = s.ctl := State.sawRecessive_ctl s
      have htrk : s.sawRecessive.trk = s.trk := State.sawRecessive_trk s
      obtain ⟨hlistened, hgone, hwas, hclosed⟩ :=
        State.boundary_activates (htrk ▸ hopen) (by rwa [hsaw]) ht
      exact ⟨hsaw ▸ hlistened, hgone, htrk ▸ hwas, hclosed⟩
    · exact absurd (s.sawRecessive_ctl ▸ ht) hs
    · exact absurd (s.sawRecessive_ctl ▸ ht) hs
    · exact nomatch ‹some cfg = none›
  by_cases hm : ∃ first, c = .markRecognised first
  · obtain ⟨first, rfl⟩ := hm
    simp only [exec, execMarkRecognised, hcfg] at h
    split at h
    · have hlost := State.markRecognised_activates (cfg := cfg)
        (s := State.restartTimer { s with rx := Receiver.idleAfter dominant }) hs
      split at h <;> cases h
      · obtain ⟨hlistened, hgone, hwas, hclosed⟩ := hlost.1 ht
        exact ⟨hlistened, hgone, hwas, hclosed⟩
      · obtain ⟨hlistened, hgone, hwas, hclosed⟩ := hlost.2 ht
        exact ⟨hlistened, hgone, hwas, hclosed⟩
    · cases h
      exact absurd ht hs
  · exact absurd (exec_keepsInactive hb (not_exists.mp hm) h ht) hs

/-- Settles O59. -/
theorem activeIsEnteredAtClose : Obligations.ActiveIsEnteredAtClose := by
  intro s t cfg h hcfg hs ht
  unfold step at h
  split at h
  · cases h
    exact absurd (s.clock_ctl ▸ ht) hs
  · rename_i c rest _
    obtain ⟨hlistened, hgone, hwas, hclosed⟩ := exec_activates (s := { s with pending := rest }) hcfg h hs ht
    exact ⟨hlistened, hgone, hwas, hclosed⟩

end Sys2Proof.Machine

namespace Sys2Proof.Machine

/-! ### Bytes and words of a response (R170, R171) -/

/-- Byte `i` of a response as a number. -/
def byteAt (l : List Byte) (i : Nat) : Nat := (l.getD i 0).toNat

/-- The 16-bit value at byte `i` of a response, most significant byte first. -/
def wordAt (l : List Byte) (i : Nat) : Nat := 256 * byteAt l i + byteAt l (i + 1)

theorem byteAt_append (l m : List Byte) (i : Nat) : byteAt (l ++ m) (l.length + i) = byteAt m i := by
  rw [byteAt, List.getD_append_right _ _ _ _ (Nat.le_add_right _ _), Nat.add_sub_cancel_left, byteAt]

theorem wordAt_bytes16 {n : Nat} (h : n < 65536) (rest : List Byte) : wordAt (bytes16 n ++ rest) 0 = n := by
  show 256 * (byteOf (n / 256)).toNat + (byteOf n).toNat = n
  rw [byteOf_toNat (by omega), byteOf, BitVec.toNat_ofNat]
  omega

theorem flatMap_length_of_uniform {α : Type} {f : α → List Byte} {k : Nat} (hf : ∀ a, (f a).length = k) (l : List α) :
    (l.flatMap f).length = k * l.length := by
  simp [List.length_flatMap, hf, Nat.mul_comm]

/-- Blocks of one length side by side: a byte of a block is that of its element. -/
theorem byteAt_flatMap {α : Type} {f : α → List Byte} {k : Nat} (hf : ∀ a, (f a).length = k) {l : List α} {i j : Nat}
    {a : α} (hi : l[i]? = some a) (hj : j < k) : byteAt (l.flatMap f) (k * i + j) = byteAt (f a) j := by
  induction l generalizing i with
  | nil => cases hi
  | cons b l ih =>
    rw [List.flatMap_cons]
    cases i with
    | zero =>
      cases hi
      rw [Nat.mul_zero, Nat.zero_add, byteAt, List.getD_append _ _ _ _ (by rwa [hf]), byteAt]
    | succ i =>
      have hshift : k * (i + 1) + j = (f b).length + (k * i + j) := by rw [hf, Nat.mul_succ]; omega
      rw [hshift, byteAt_append]
      exact ih hi

/-! ### READ STATUS and READ COUNTERS (R159) -/

theorem CheckReason.number_le (c : CheckReason) : c.number ≤ 13 := by cases c <;> decide

theorem StopReason.code_lt (r : StopReason) : r.code < 256 := by
  rcases r with c | _ | _
  · have := c.number_le
    exact show 0x60 + c.number < 256 by omega
  · decide
  · decide

/-- An optional field is as narrow as its values and what stands for none. -/
theorem getD_map_lt {α : Type} {f : α → Nat} {o : Option α} {d m : Nat} (hd : d < m) (hf : ∀ a, o = some a → f a < m) :
    (o.map f).getD d < m := by
  cases o with
  | none => exact hd
  | some a => exact hf a rfl

theorem reasonByte_toNat (r : Option StopReason) : (reasonByte r).toNat = (r.map StopReason.code).getD 0 :=
  byteOf_toNat (getD_map_lt (by decide) fun r _ => r.code_lt)

/-- The bytes of READ STATUS in their order (R171). -/
theorem State.statusResponse_layout (s : State) :
    let l := s.statusResponse
    l.length = 9 ∧ byteAt l 0 = s.ctl.station.code ∧
      byteAt l 1 = (s.ctl.station.fault.map StopReason.code).getD 0 ∧
      byteAt l 2 = (s.ctl.lastStop.map StopReason.code).getD 0 ∧
      (s.ctl.restarts ≤ 255 → byteAt l 3 = s.ctl.restarts) ∧ wordAt l 4 = s.trk.round.toNat ∧
      (QueueLaw s → byteAt l 6 = s.tap.queue.length ∧ wordAt l 7 = s.tap.lostEvents) := by
  refine ⟨rfl, byteOf_toNat (by have := s.ctl.station.code_le; omega), reasonByte_toNat _, reasonByte_toNat _,
    fun h => byteOf_toNat (by omega), wordAt_bytes16 s.trk.round.isLt [], fun ⟨hroom, hlost⟩ => ⟨byteOf_toNat ?_, ?_⟩⟩
  · exact Nat.lt_of_le_of_lt hroom (by decide)
  · exact wordAt_bytes16 (by omega) []

theorem State.countersResponse_layout (s : State) :
    s.countersResponse.length = 42 ∧
      ∀ i < 21, s.cnt.toList.getD i 0 ≤ 65535 → wordAt s.countersResponse (2 * i) = s.cnt.toList.getD i 0 := by
  refine ⟨rfl, fun i hi hwide => ?_⟩
  have hlen (n : Nat) : (bytes16 n).length = 2 := rfl
  have hget : s.cnt.toList[i]? = some (s.cnt.toList.getD i 0) := by
    rw [List.getD_eq_getElem?_getD, List.getElem?_eq_getElem (show i < s.cnt.toList.length from hi)]
    rfl
  have hword := wordAt_bytes16 (Nat.lt_succ_of_le hwide) []
  have hhigh : byteAt s.countersResponse (2 * i) = byteAt (bytes16 (s.cnt.toList.getD i 0)) 0 :=
    byteAt_flatMap (j := 0) hlen hget (by decide)
  have hlow : byteAt s.countersResponse (2 * i + 1) = byteAt (bytes16 (s.cnt.toList.getD i 0)) 1 :=
    byteAt_flatMap hlen hget (by decide)
  rw [wordAt, hhigh, hlow]
  exact hword

/-! ### READ ROSTER (R160) -/

theorem recordBytes_length (r : Member) (entry : Option Entry) : (recordBytes r entry).length = 16 := rfl

/-- The records of a READ ROSTER in range, by their numbers. -/
def stationsBetween (first last : Byte) : List StationNo :=
  stations.filter fun n => decide (first.toNat ≤ n.val ∧ n.val ≤ last.toNat)

theorem stationsBetween_eq {first last : Byte} (hle : first.toNat ≤ last.toNat) (hlast : last.toNat ≤ 31) :
    (stationsBetween first last).map Fin.val = List.range' first.toNat (last.toNat - first.toNat + 1) := by
  refine List.Pairwise.eq_of_mem_iff (r := (· < ·)) ?_ List.pairwise_lt_range' fun k => ?_
  · exact List.pairwise_map.mpr (stations_pairwise.filter _)
  · simp only [stationsBetween, List.mem_map, List.mem_filter, mem_stations, true_and, decide_eq_true_eq, List.mem_range'_1]
    constructor
    · rintro ⟨n, hn, rfl⟩
      omega
    · intro hk
      exact ⟨⟨k, by omega⟩, by dsimp only; omega, rfl⟩

theorem stationsBetween_length {first last : Byte} (hle : first.toNat ≤ last.toNat) (hlast : last.toNat ≤ 31) :
    (stationsBetween first last).length = last.toNat - first.toNat + 1 := by
  rw [← List.length_map Fin.val, stationsBetween_eq hle hlast, List.length_range']

theorem stationsBetween_getElem? {first last : Byte} {n : StationNo} (hfirst : first.toNat ≤ n.val) (hn : n.val ≤ last.toNat)
    (hlast : last.toNat ≤ 31) : (stationsBetween first last)[n.val - first.toNat]? = some n := by
  have hget : ((stationsBetween first last).map Fin.val)[n.val - first.toNat]? = some n.val := by
    rw [stationsBetween_eq (hfirst.trans hn) hlast, List.getElem?_range' (by omega)]
    congr 1
    omega
  rw [List.getElem?_map, Option.map_eq_some_iff] at hget
  obtain ⟨m, hm, hval⟩ := hget
  rw [hm, Fin.ext hval]

/-- A READ ROSTER in range: its five bytes of header and the records (R171). -/
theorem Copy.rosterResponse_eq (c : Copy) {first last : Byte} (hle : first.toNat ≤ last.toNat) (hlast : last.toNat ≤ 31) :
    c.rosterResponse first last =
      (bytes16 c.stamp.toNat ++ [byteOf c.table.length] ++ bytes16 (freePointer c.table)) ++
        (stationsBetween first last).flatMap fun n => recordBytes (c.roster.get n) (entryOf c.table n) :=
  if_pos (decide_eq_true ⟨hle, hlast⟩)

/-- The length of a READ ROSTER in range, and its header: round stamp, table length, free pointer (R171). -/
theorem Copy.rosterResponse_header (c : Copy) {first last : Byte} (hle : first.toNat ≤ last.toNat) (hlast : last.toNat ≤ 31) :
    (c.rosterResponse first last).length = 5 + 16 * (last.toNat - first.toNat + 1) ∧
      wordAt (c.rosterResponse first last) 0 = c.stamp.toNat ∧
      (c.table.length ≤ 32 → byteAt (c.rosterResponse first last) 2 = c.table.length) ∧
      (freePointer c.table ≤ 512 → wordAt (c.rosterResponse first last) 3 = freePointer c.table) := by
  rw [c.rosterResponse_eq hle hlast]
  refine ⟨?_, wordAt_bytes16 c.stamp.isLt [], fun h => byteOf_toNat (by omega), fun h => wordAt_bytes16 (by omega) []⟩
  rw [List.length_append, flatMap_length_of_uniform (fun n => recordBytes_length _ _), stationsBetween_length hle hlast]
  rfl

theorem Copy.rosterResponse_out (c : Copy) {first last : Byte} (h : ¬ (first.toNat ≤ last.toNat ∧ last.toNat ≤ 31)) :
    c.rosterResponse first last = List.replicate 21 0 :=
  if_neg (mt of_decide_eq_true h)

theorem Copy.rosterResponse_record (c : Copy) {first last : Byte} {n : StationNo} (hfirst : first.toNat ≤ n.val)
    (hn : n.val ≤ last.toNat) (hlast : last.toNat ≤ 31) {k : Nat} (hk : k < 16) :
    byteAt (c.rosterResponse first last) (5 + 16 * (n.val - first.toNat) + k) =
      byteAt (recordBytes (c.roster.get n) (entryOf c.table n)) k := by
  rw [c.rosterResponse_eq (hfirst.trans hn) hlast, Nat.add_assoc]
  exact (byteAt_append _ _ _).trans
    (byteAt_flatMap (fun n => recordBytes_length _ _) (stationsBetween_getElem? hfirst hn hlast) hk)

/-! ### READ POINTS (R160) -/

theorem positionBytes_length (levels supplied : Nat → Bool) : (positionBytes levels supplied).length = 16 := by
  simp [positionBytes]

theorem positionBytes_level (levels supplied : Nat → Bool) {p : Nat} (hp : p < 64) :
    ((positionBytes levels supplied).getD (p / 8) 0).getLsbD (p % 8) = levels p := by
  have hbyte : p / 8 < (pointBytesOf (bitsOf levels 64) 8).length := by rw [pointBytesOf_length]; omega
  rw [positionBytes, List.getD_append _ _ _ _ hbyte]
  refine (pointOf_pointBytesOf (bitsOf levels 64) hp).trans ?_
  rw [getLsbD_bitsOf, decide_eq_true hp, Bool.true_and]

theorem positionBytes_supplied (levels supplied : Nat → Bool) {p : Nat} (hp : p < 64) :
    ((positionBytes levels supplied).getD (8 + p / 8) 0).getLsbD (p % 8) = supplied p := by
  have hlen : (pointBytesOf (bitsOf levels 64) 8).length = 8 := pointBytesOf_length _ _
  rw [positionBytes, List.getD_append_right _ _ _ _ (by omega), hlen, Nat.add_sub_cancel_left]
  refine (pointOf_pointBytesOf (bitsOf supplied 64) hp).trans ?_
  rw [getLsbD_bitsOf, decide_eq_true hp, Bool.true_and]

/-- What READ POINTS returns of a station in range, its numbers and positions as given (R171). -/
def pointsReply (stamp : BitVec 16) (a b : Byte) (levels supplied : Nat → Bool) : List Byte :=
  bytes16 stamp.toNat ++ ([a, b] ++ positionBytes levels supplied)

theorem pointsReply_length (stamp : BitVec 16) (a b : Byte) (levels supplied : Nat → Bool) :
    (pointsReply stamp a b levels supplied).length = 20 := by
  simp [pointsReply, bytes16, positionBytes_length]

theorem pointsReply_stamp (stamp : BitVec 16) (a b : Byte) (levels supplied : Nat → Bool) :
    wordAt (pointsReply stamp a b levels supplied) 0 = stamp.toNat :=
  wordAt_bytes16 stamp.isLt _

theorem pointsReply_points (stamp : BitVec 16) (a b : Byte) (levels supplied : Nat → Bool) {p : Nat} (hp : p < 64) :
    ((pointsReply stamp a b levels supplied).getD (4 + p / 8) 0).getLsbD (p % 8) = levels p ∧
      ((pointsReply stamp a b levels supplied).getD (12 + p / 8) 0).getLsbD (p % 8) = supplied p := by
  have htwelve : 12 + p / 8 = 8 + p / 8 + 4 := by omega
  rw [Nat.add_comm 4, htwelve]
  exact ⟨positionBytes_level levels supplied hp, positionBytes_supplied levels supplied hp⟩

theorem Copy.peerPoints_of_none {c : Copy} {n : StationNo} (h : entryOf c.table n = none) :
    bytes16 c.stamp.toNat ++ c.peerPoints n =
      pointsReply c.stamp (byteOf (c.roster.get n).placement.code) 0 (fun _ => false) fun _ => false := by
  rw [Copy.peerPoints, h]
  rfl

/-- The positions a peer's entry covers, with their levels and supplied flags (R171). -/
theorem Copy.peerPoints_of_some {c : Copy} {n : StationNo} {e : Entry} (h : entryOf c.table n = some e) :
    bytes16 c.stamp.toNat ++ c.peerPoints n =
      pointsReply c.stamp (byteOf (c.roster.get n).placement.code) (byteOf e.length)
        (fun p => decide (p < e.length) && c.pool.levels.getLsbD (e.offset + p))
        fun p => decide (p < e.length) && c.pool.supplied.getLsbD (e.offset + p) := by
  rw [Copy.peerPoints, h]
  rfl

theorem Copy.ownPoints_of_none {c : Copy} (h : c.own = none) (width : Nat) :
    bytes16 c.stamp.toNat ++ c.ownPoints width = pointsReply c.stamp 0 0 (fun _ => false) fun _ => false := by
  rw [Copy.ownPoints, h]
  rfl

theorem Copy.ownPoints_of_some {c : Copy} {own : BitVec 64} (h : c.own = some own) (width : Nat) :
    bytes16 c.stamp.toNat ++ c.ownPoints width =
      pointsReply c.stamp 0 (byteOf (8 * width)) (fun p => decide (p < 8 * width) && own.getLsbD p)
        fun p => decide (p < 8 * width) := by
  rw [Copy.ownPoints, h]
  rfl

theorem State.pointsResponse_out {s : State} {station : Byte} (h : 32 ≤ station.toNat) :
    s.pointsResponse station = List.replicate 20 0 := by
  have hout : ¬ stationInRange station = true := by simp [stationInRange]; omega
  exact if_neg hout

theorem State.pointsResponse_peer {s : State} {station : Byte} (h : station.toNat ≤ 31)
    (hpeer : ∀ cfg, s.ldr.config = some cfg → Fin.ofNat 32 station.toNat ≠ cfg.own) :
    s.pointsResponse station =
      bytes16 s.tap.published.stamp.toNat ++ s.tap.published.peerPoints (Fin.ofNat 32 station.toNat) := by
  refine (if_pos (decide_eq_true h)).trans (congrArg _ ?_)
  split
  · rfl
  · rename_i cfg hcfg
    exact if_neg (hpeer cfg hcfg)

theorem State.pointsResponse_own {s : State} {station : Byte} {cfg : Configuration} (hcfg : s.ldr.config = some cfg)
    (hown : station.toNat = cfg.own.val) :
    s.pointsResponse station = bytes16 s.tap.published.stamp.toNat ++ s.tap.published.ownPoints cfg.width := by
  have hle : station.toNat ≤ 31 := hown ▸ Nat.le_of_lt_succ cfg.own.isLt
  have hnumber : Fin.ofNat 32 station.toNat = cfg.own := by rw [hown]; exact Fin.ofNat_val_eq_self cfg.own
  refine (if_pos (decide_eq_true hle)).trans (congrArg _ ?_)
  rw [hcfg]
  exact if_pos hnumber

/-- Whatever READ POINTS returns in range is laid out so (R171). -/
theorem State.pointsResponse_reply (s : State) {station : Byte} (h : station.toNat ≤ 31) :
    ∃ a b levels supplied, s.pointsResponse station = pointsReply s.tap.published.stamp a b levels supplied := by
  by_cases hown : ∃ cfg, s.ldr.config = some cfg ∧ Fin.ofNat 32 station.toNat = cfg.own
  · obtain ⟨cfg, hcfg, hnumber⟩ := hown
    have hval : station.toNat = cfg.own.val := by
      rw [← hnumber, Fin.val_ofNat]
      omega
    rw [State.pointsResponse_own hcfg hval]
    cases ho : s.tap.published.own with
    | none => exact ⟨_, _, _, _, Copy.ownPoints_of_none ho _⟩
    | some own => exact ⟨_, _, _, _, Copy.ownPoints_of_some ho _⟩
  · rw [State.pointsResponse_peer h fun cfg hcfg hnumber => hown ⟨cfg, hcfg, hnumber⟩]
    cases he : entryOf s.tap.published.table (Fin.ofNat 32 station.toNat) with
    | none => exact ⟨_, _, _, _, Copy.peerPoints_of_none he⟩
    | some e => exact ⟨_, _, _, _, Copy.peerPoints_of_some he⟩

/-! ### READ TERMS (R160) and the event record (R170) -/

theorem termBytes_length (t : TermState) : (termBytes t).length = 3 := rfl

theorem Copy.termsResponse_length (c : Copy) : c.termsResponse.length = 52 := by
  simp [Copy.termsResponse, flatMap_length_of_uniform (fun _ => termBytes_length _), bytes16]

/-- The bytes behind the sixteen term states (R171). -/
theorem Copy.termsResponse_tail (c : Copy) (k : Nat) :
    c.termsResponse.getD (50 + k) 0 = [byteOf c.stale.toNat, c.levels].getD k 0 := by
  have hlen : (bytes16 c.stamp.toNat ++ (List.finRange 16).flatMap fun j => termBytes (c.terms.get j)).length = 50 := by
    simp [flatMap_length_of_uniform (fun _ => termBytes_length _), bytes16]
  rw [Copy.termsResponse, List.getD_append_right _ _ _ _ (by omega), hlen, Nat.add_sub_cancel_left]

theorem Copy.termsResponse_term (c : Copy) (j : TermNo) {k : Nat} (hk : k < 3) :
    byteAt c.termsResponse (2 + k + 3 * j.val) = byteAt (termBytes (c.terms.get j)) k := by
  have hget : (List.finRange 16)[j.val]? = some j := by simp
  have hlen := flatMap_length_of_uniform (fun j => termBytes_length (c.terms.get j)) (List.finRange 16)
  rw [Copy.termsResponse, List.append_assoc, Nat.add_assoc, Nat.add_comm k]
  refine (byteAt_append (bytes16 c.stamp.toNat) _ _).trans ?_
  rw [byteAt, List.getD_append _ _ _ _ (by rw [hlen, List.length_finRange]; omega)]
  exact byteAt_flatMap (fun j => termBytes_length _) hget hk

theorem EventKind.bit_le (k : EventKind) : k.bit ≤ 12 := by cases k <;> decide

theorem Event.bytes_layout (e : Event) :
    e.bytes.length = 6 ∧ byteAt e.bytes 0 = e.kind.bit + 1 ∧ e.bytes.getD 1 0 = e.subject ∧
      wordAt e.bytes 2 = e.stamp.toNat ∧ wordAt e.bytes 4 = 32768 * e.afterLoss.toNat + e.detail.toNat := by
  have hdetail : (if e.afterLoss then 0x8000 else 0) + e.detail.toNat = 32768 * e.afterLoss.toNat + e.detail.toNat := by
    cases e.afterLoss <;> rfl
  have hnarrow := e.detail.isLt
  have hbit := e.kind.bit_le
  have hloss := e.afterLoss.toNat_le
  refine ⟨rfl, byteOf_toNat (by omega), rfl, wordAt_bytes16 e.stamp.isLt [], ?_⟩
  rw [← hdetail]
  exact wordAt_bytes16 (by omega) []

/-! ### The fields of a record and of a term state (R171) -/

theorem presenceByte_toNat (r : Member) :
    (presenceByte r).toNat =
      (match r.presence with
        | .unseen => 0
        | .present => 1
        | .late => 2
        | .absent => 3) +
      (match r.reason with
        | none => 0
        | some .silent => 4
        | some .left => 8) := by
  unfold presenceByte
  rcases r.reason with _ | _ | _ <;> cases r.presence <;> rfl

theorem cadenceByte_toNat (cadence : Option Cadence) :
    (byteOf ((cadence.map Cadence.rounds).getD 0)).toNat = (match cadence with
      | none => 0
      | some .one => 1
      | some .two => 2
      | some .four => 4
      | some .eight => 8) := by
  rcases cadence with _ | _ | _ | _ | _ <;> rfl

theorem seqByte_toNat (seq : Option (BitVec 6)) :
    (byteOf ((seq.map BitVec.toNat).getD 0xFF)).toNat = (match seq with
      | none => 0xFF
      | some seq => seq.toNat) := by
  rw [byteOf_toNat (getD_map_lt (by decide) fun seq _ => seq.isLt.trans (by decide))]
  cases seq <;> rfl

theorem wordAt_tag (tag : Option (BitVec 10)) :
    wordAt (bytes16 ((tag.map BitVec.toNat).getD 0xFFFF)) 0 = (match tag with
      | none => 0xFFFF
      | some tag => tag.toNat) := by
  refine (wordAt_bytes16 (getD_map_lt (by decide) fun tag _ => tag.isLt.trans (by decide)) []).trans ?_
  cases tag <;> rfl

theorem Placement.code_lt (p : Placement) : p.code < 256 := by cases p <;> decide

theorem placementByte_toNat (p : Placement) :
    (byteOf p.code).toNat = (match p with
      | .none => 0
      | .full => 1
      | .truncated => 2
      | .unplaced => 3) := by
  cases p <;> rfl

theorem wordAt_offset (entry : Option Entry) : (∀ e, entry = some e → e.offset ≤ 511 ∧ e.length ≤ 64) →
    wordAt (bytes16 ((entry.map (·.offset)).getD 0xFFFF)) 0 = (match entry with
      | none => 0xFFFF
      | some e => e.offset) := by
  intro h
  refine (wordAt_bytes16 (getD_map_lt (by decide) fun e he => (h e he).1.trans_lt (by decide)) []).trans ?_
  cases entry <;> rfl

theorem lengthByte_toNat (entry : Option Entry) : (∀ e, entry = some e → e.offset ≤ 511 ∧ e.length ≤ 64) →
    (byteOf ((entry.map (·.length)).getD 0)).toNat = (match entry with
      | none => 0
      | some e => e.length) := by
  intro h
  rw [byteOf_toNat (getD_map_lt (by decide) fun e he => (h e he).2.trans_lt (by decide))]
  cases entry <;> rfl

theorem flagsByte_toNat (f : Option SenderFlags) :
    (flagsByte f).toNat = (match f with
      | none => 0xFF
      | some f => 2 * f.stale.toNat + f.pool.toNat) := by
  rcases f with _ | ⟨stale, pool⟩
  · rfl
  · cases stale <;> cases pool <;> rfl

theorem termBytes_flags (t : TermState) :
    byteAt (termBytes t) 2 =
      128 * t.phase.value.toNat +
      (match t.lastRaw with
        | .unknown => 0
        | .yes => 16
        | .no => 32) + t.byPolicy.toNat := by
  unfold termBytes
  generalize t.phase.value = value
  cases t.lastRaw <;> cases value <;> cases t.byPolicy <;> rfl

theorem termBytes_phase (t : TermState) :
    byteAt (termBytes t) 0 = (match t.phase with
      | .off => 0
      | .arming _ => 1
      | .on => 2
      | .disarming _ => 3) := by
  unfold termBytes
  cases t.phase <;> rfl

theorem termBytes_count {t : TermState} {count : Nat} (hcount : count ≤ 255)
    (h : t.phase = .arming count ∨ t.phase = .disarming count) : byteAt (termBytes t) 1 = count := by
  unfold termBytes
  rcases h with h | h <;> rw [h] <;> exact byteOf_toNat (n := count) (by omega)

theorem termBytes_without_count {t : TermState} (h : t.phase = .off ∨ t.phase = .on) : byteAt (termBytes t) 1 = 0 := by
  unfold termBytes
  rcases h with h | h <;> rw [h] <;> rfl

/-- Settles O48. -/
theorem responsesHaveTheirLayout : Obligations.ResponsesHaveTheirLayout := by
  intro s first last station at' be reason c roster points number terms
  have hreason (r : Option StopReason) : (r.map StopReason.code).getD 0 = reason r := by
    rcases r with _ | c | _ | _ <;> rfl
  refine ⟨?_, s.countersResponse_layout, fun hle hlast => ?_, c.rosterResponse_out,
    ⟨?_, fun hin => ?_, fun hin hpeer => ?_, fun cfg hcfg hwidth hown => ?_, State.pointsResponse_out⟩,
    ⟨c.termsResponse_length, wordAt_bytes16 c.stamp.isLt _, c.termsResponse_tail 1, ?_, ?_⟩, fun e => e.bytes_layout⟩
  · have h := s.statusResponse_layout
    dsimp only at h
    rwa [hreason, hreason] at h
  · obtain ⟨hlength, hstamp, htable, hfree⟩ := c.rosterResponse_header hle hlast
    refine ⟨hlength, hstamp, htable, hfree, fun n hfirst hn => ?_⟩
    intro r base hage hwidth hmissed hrepeats hchanges hentry
    have hrec {k : Nat} (hk : k < 16) : at' roster (base + k) = byteAt (recordBytes r (entryOf c.table n)) k :=
      c.rosterResponse_record hfirst hn hlast hk
    have hword {k : Nat} (hk : k + 1 < 16) : be roster (base + k) = wordAt (recordBytes r (entryOf c.table n)) k :=
      congrArg₂ (fun a b => 256 * a + b) (hrec (Nat.lt_of_succ_lt hk)) (hrec hk)
    exact ⟨(hrec (k := 0) (by decide)).trans (presenceByte_toNat r), (hrec (by decide)).trans (byteOf_toNat (by omega)),
      (hrec (by decide)).trans (cadenceByte_toNat _), (hrec (by decide)).trans (byteOf_toNat (by omega)),
      (hrec (by decide)).trans (seqByte_toNat _), (hword (by decide)).trans (wordAt_tag _),
      (hrec (by decide)).trans (flagsByte_toNat _), (hrec (by decide)).trans (byteOf_toNat (by omega)),
      (hrec (by decide)).trans (byteOf_toNat (by omega)), (hrec (by decide)).trans (byteOf_toNat (by omega)),
      (hrec (by decide)).trans (placementByte_toNat _), (hword (by decide)).trans (wordAt_offset _ hentry),
      (hrec (by decide)).trans (lengthByte_toNat _ hentry), hrec (by decide)⟩
  · by_cases hin : station.toNat ≤ 31
    · obtain ⟨a, b, levels, supplied, hreply⟩ := s.pointsResponse_reply hin
      exact (congrArg List.length hreply).trans (pointsReply_length _ _ _ _ _)
    · exact congrArg List.length (State.pointsResponse_out (Nat.lt_of_not_le hin))
  · obtain ⟨a, b, levels, supplied, hreply⟩ := s.pointsResponse_reply hin
    exact (congrArg (wordAt · 0) hreply).trans (pointsReply_stamp _ _ _ _ _)
  · have hpoints : points = _ := State.pointsResponse_peer hin hpeer
    have hcode : (byteOf (c.roster.get number).placement.code).toNat = (c.roster.get number).placement.code :=
      byteOf_toNat (Placement.code_lt _)
    cases he : entryOf c.table number with
    | none =>
      have hreply := hpoints.trans (Copy.peerPoints_of_none he)
      rw [hreply]
      exact ⟨hcode, fun _ => ⟨rfl, fun p hp => pointsReply_points _ _ _ _ _ hp⟩, nofun⟩
    | some e =>
      have hreply := hpoints.trans (Copy.peerPoints_of_some he)
      rw [hreply]
      refine ⟨hcode, nofun, fun e' he' hlen => ?_⟩
      cases he'
      exact ⟨byteOf_toNat (by omega), fun p hp => pointsReply_points _ _ _ _ _ hp⟩
  · have hpoints : points = _ := State.pointsResponse_own hcfg hown
    cases ho : c.own with
    | none =>
      have hreply := hpoints.trans (Copy.ownPoints_of_none ho cfg.width)
      rw [hreply]
      exact ⟨rfl, fun _ => ⟨rfl, fun p hp => pointsReply_points _ _ _ _ _ hp⟩, nofun⟩
    | some own =>
      have hreply := hpoints.trans (Copy.ownPoints_of_some ho cfg.width)
      rw [hreply]
      refine ⟨rfl, nofun, fun own' ho' => ?_⟩
      cases ho'
      exact ⟨byteOf_toNat (by omega), fun p hp => pointsReply_points _ _ _ _ _ hp⟩
  · refine (congrArg BitVec.toNat (c.termsResponse_tail 0)).trans (byteOf_toNat ?_)
    have := c.stale.toNat_le
    omega
  · intro j t
    have hterm {k : Nat} (hk : k < 3) : at' terms (2 + k + 3 * j.val) = byteAt (termBytes t) k := c.termsResponse_term j hk
    exact ⟨(hterm (k := 0) (by decide)).trans (termBytes_phase t),
      fun count hcount hph => (hterm (k := 1) (by decide)).trans (termBytes_count hcount hph),
      fun hph => (hterm (k := 1) (by decide)).trans (termBytes_without_count hph),
      (hterm (k := 2) (by decide)).trans (termBytes_flags t)⟩

end Sys2Proof.Machine
end

section
/-! PROOFS of the statement on posting to the event queue. -/

-- One proof after another, as in the files before (each elaboration thread reserves a stack of its own).
set_option Elab.async false

namespace Sys2Proof.Machine

/-! ### Posting and the room in the queue (R163, R165) -/

/-- The mask judges a kind only while a configuration is held (R163). -/
theorem State.allows_iff (s : State) (kind : EventKind) :
    s.allows kind = true ↔ ∀ cfg, s.ldr.config = some cfg → cfg.mask.getLsbD kind.bit = true := by
  unfold State.allows
  cases s.ldr.config <;> simp

theorem State.post_of_not_allows {s : State} {kind : EventKind} (subject detail : Nat) (h : ¬ s.allows kind = true) :
    s.post kind subject detail = s := if_neg h

theorem State.post_of_allows {s : State} {kind : EventKind} (subject detail : Nat) (h : s.allows kind = true) :
    s.post kind subject detail =
      { s with
        tap := s.tap.place
          { kind := kind, subject := byteOf subject, stamp := s.trk.round, detail := BitVec.ofNat 10 detail,
            afterLoss := false } } := if_pos h

/-- A placed event leaves an entry behind it either way: its own, or those of the full queue that it met. -/
theorem Tap.place_queue_ne_nil (t : Tap) (e : Event) : (t.place e).queue ≠ [] := by
  by_cases hroom : t.queue.length < Config.queueRoom
  · simp [t.place_of_room e hroom]
  · have hfull : 0 < t.queue.length := Nat.lt_of_lt_of_le (by decide) (Nat.le_of_not_lt hroom)
    simpa [t.place_of_full e hroom] using List.length_pos_iff.mp hfull

theorem State.attn_of_running {s : State} (hp : s.power = .running) (hq : s.tap.queue ≠ []) : s.attn = true := by
  simp [State.attn, hp, hq]

/-- Settles O44. -/
theorem postingFollowsMaskAndRoom : Obligations.PostingFollowsMaskAndRoom := by
  intro s kind subject detail allowed t
  have hallows : s.allows kind = true ↔ allowed := s.allows_iff kind
  have hplaced (h : allowed) := State.post_of_allows subject detail (hallows.mpr h)
  refine ⟨fun hno => ?_, fun h hroom => ?_, fun h hfull => ?_, fun h hp => ?_⟩
  · exact State.post_of_not_allows subject detail (mt hallows.mp hno)
  · exact (hplaced h).trans (by rw [Tap.place_of_room _ _ hroom]; rfl)
  · exact (hplaced h).trans (by rw [Tap.place_of_full _ _ (Nat.not_lt.mpr hfull)]; rfl)
  · refine State.attn_of_running ((s.post_power kind subject detail).trans hp) ?_
    rw [show t = _ from hplaced h]
    exact s.tap.place_queue_ne_nil _

end Sys2Proof.Machine
end

section
/-! PROOFS of the statements on the commands of the local tap. -/

-- One proof after another, as in the files before (each elaboration thread reserves a stack of its own).
set_option Elab.async false

namespace Sys2Proof.Machine

/-! ### The bits of a command under way (R155, R156) -/

/-- Bits short of a byte spell none. -/
theorem bytesOfBits_of_short {bits : List Level} (h : bits.length < 8) : bytesOfBits bits = [] := by
  unfold bytesOfBits
  split
  · simp only [List.length_cons] at h
    omega
  · rfl

theorem bytesOfBits_bitsOfByte_append (b : Byte) (bits : List Level) :
    bytesOfBits (bitsOfByte b ++ bits) = b :: bytesOfBits bits :=
  congrArg (· :: bytesOfBits bits) (byteOfBits_bits b)

/-- The bytes that are in once so many bits of a byte sequence have arrived. -/
theorem bytesOfBits_take_bitsOfBytes (bytes : List Byte) (n : Nat) :
    bytesOfBits ((bitsOfBytes bytes).take n) = bytes.take (n / 8) := by
  induction bytes generalizing n with
  | nil => simp [bitsOfBytes, bytesOfBits]
  | cons b bs ih =>
    rcases Nat.lt_or_ge n 8 with hn | hn
    · rw [bytesOfBits_of_short (List.length_take_le _ _ |>.trans_lt hn), Nat.div_eq_of_lt hn, List.take_zero]
    · obtain ⟨k, rfl⟩ := Nat.exists_eq_add_of_le hn
      have htake : (bitsOfBytes (b :: bs)).take (8 + k) = bitsOfByte b ++ (bitsOfBytes bs).take k :=
        List.take_length_add_append (l₁ := bitsOfByte b) k
      rw [htake, bytesOfBits_bitsOfByte_append, ih, Nat.add_div_left k (by decide), List.take_succ_cons]

/-- What a command under way has taken in: its code with the first byte, the arguments so far, the bits of a byte on its way (R155). -/
theorem Opened.ofBits_take {code : Byte} {args : List Byte} {n : Nat} (hn : tapArguments code.toNat = some args.length)
    (hlt : n < 8 * (args.length + 1)) :
    Opened.ofBits ((bitsOfBytes (code :: args)).take n) =
      { code := if 8 ≤ n then some code else none, args := args.take (n / 8 - 1)
        spare := ((bitsOfBytes (code :: args)).take n).drop (n / 8 * 8), latch := none } := by
  rw [Opened.ofBits, bytesOfBits_take_bitsOfBytes]
  rcases Nat.lt_or_ge n 8 with h | h
  · rw [Nat.div_eq_of_lt h, if_neg (Nat.not_le.mpr h), Nat.zero_mul, List.drop_zero]
    rfl
  · obtain ⟨m, hm⟩ : ∃ m, n / 8 = m + 1 := ⟨n / 8 - 1, by omega⟩
    have hmore : m < args.length := by omega
    have hlen : (args.take m).length = m := List.length_take_of_le hmore.le
    rw [hm, List.take_succ_cons, if_pos h]
    simp [hn, hlen, hmore, List.take_take, hmore.le, Nat.mul_comm]

/-- An unknown code is held alone: it takes no arguments, and what arrives behind it is not kept (R155, R156). -/
theorem Opened.ofBits_unknown {code : Byte} (more : List Byte) (h : tapArguments code.toNat = none) :
    Opened.ofBits (bitsOfBytes (code :: more)) = { code := some code, args := [], spare := [], latch := none } := by
  simp [Opened.ofBits, h]

/-! ### The levels that go out under a command under way (R156) -/

/-- A status byte and zeros behind it, bit by bit. -/
theorem getLsbD_status_zeros (status : Byte) (k i : Nat) :
    ((status :: (List.replicate k 0 ++ [])).getD (i / 8) 0).getLsbD (7 - i % 8) =
      if i < 8 then status.getLsbD (7 - i) else false := by
  rcases Nat.lt_or_ge i 8 with hi | hi
  · rw [Nat.div_eq_of_lt hi, Nat.mod_eq_of_lt hi, if_pos hi]
    rfl
  · obtain ⟨j, hj⟩ : ∃ j, i / 8 = j + 1 := ⟨i / 8 - 1, by omega⟩
    have hzero : (List.replicate k (0 : Byte)).getD j 0 = 0 := by
      rw [List.getD_eq_getElem?_getD, List.getElem?_replicate]
      split <;> rfl
    rw [hj, List.append_nil, List.getD_cons_succ, hzero, if_neg (Nat.not_lt.mpr hi)]
    exact BitVec.getLsbD_zero

theorem Opened.output_of_unlatched {o : Opened} (h : o.latch = none) (status : Byte) :
    o.output status = bitsOfBytes (status :: (List.replicate o.args.length 0 ++ [])) := by
  rw [Opened.output, bitsOfBytes, bitsOfBytes_append, bitsOfBytes_replicate, h, List.append_assoc]
  rfl

/-- The next bit on the pin before a response is fixed (R156). -/
theorem Opened.output_getD_of_unlatched {o : Opened} (h : o.latch = none) (status : Byte) (i : Nat) :
    (o.output status).getD i false = if i < 8 then status.getLsbD (7 - i) else false := by
  rw [Opened.output_of_unlatched h, bitsOfBytes_getD, getLsbD_status_zeros]

/-- What goes out before a response is fixed: the status byte, 00h beyond it, for any number of arguments (R156). -/
theorem Opened.shifted_of_unlatched {o : Opened} (h : o.latch = none) (status : Byte) (args clocks : Nat) :
    o.shifted status clocks = outLevels status args [] clocks := by
  rw [Opened.shifted, take_append_fill, outLevels]
  exact List.map_congr_left fun i _ =>
    (Opened.output_getD_of_unlatched h status i).trans (getLsbD_status_zeros status args i).symm

theorem outLevels_length (status : Byte) (args : Nat) (response : List Byte) (clocks : Nat) :
    (outLevels status args response clocks).length = clocks := by
  rw [outLevels, List.length_map, List.length_range]

/-! ### A command under way, completed, and whole (R156, R159, R164; log 10) -/

/-- Further bits of a command that do not complete it (R155, R156). -/
theorem State.arrive_underway {s : State} {bits : List Level} {clocks : Nat} (h : s.underway bits)
    (hlt : s.tap.dout.length + clocks < bits.length) (latch : Option Latch) :
    s.arrive bits latch clocks =
      s.transact (Opened.ofBits (bits.take (s.tap.dout.length + clocks))) (s.tap.dout.length + clocks) := by
  obtain ⟨htrans, -⟩ := h
  simp [State.arrive, htrans, Nat.not_le.mpr hlt]

/-- The bits that are left of a command that has its code known: it is held complete, its response fixed (R156, R159, R164). -/
theorem State.tapCommand_completed {s : State} {code : Nat} {args : List Byte}
    (hn : tapArguments (byteOf code).toNat = some args.length) (h : s.underway (bitsOfBytes (byteOf code :: args)))
    (response : State → List Byte) (take : State → Nat) (effect : Latch → State → State) :
    s.tapCommand code args .complete response take effect =
      { s with
        tap := { s.tap with
          trans := .opened
            { code := some (byteOf code), args := args, spare := []
              latch := some { response := response s, take := take s } }
          dout := outLevels s.tap.status args.length (response s) (8 * (args.length + 1)) } } := by
  obtain ⟨htrans, hle⟩ := h
  rw [length_bitsOfBytes] at hle
  rw [State.tapCommand_complete code args response take effect s hn htrans hle, State.transact, Opened.shifted_eq _ rfl]

/-- LOAD CONFIG with its 512 bytes, no more and no fewer (R146). -/
theorem exec_loadConfig_of_length {image : List Byte} (h : image.length = 512) (part : TapPart) (s : State) :
    exec (.loadConfig image part) s =
      .next (s.tapCommand 0x20 image part noResponse noTake fun _ s => s.loadEffect image) := by
  have htake : image.take Config.imageBytes = image := List.take_of_length_le h.le
  simp only [exec, execLoadConfig, htake]
  exact if_pos h

/-- A known code with all of its arguments names one of the twelve commands, and that command is a transaction of those bytes (R158,
R170). -/
theorem exec_tapCommandOf {code : Nat} {args : List Byte} (h : tapArguments code = some args.length) :
    ∃ (response : State → List Byte) (take : State → Nat) (effect : Latch → State → State), ∀ part, ∃ i,
      tapCommandOf code args part = some i ∧
        ∀ s, exec i s = .next (s.tapCommand code args part response take effect) := by
  unfold tapArguments at h
  split at h
  case h_3 =>
    obtain ⟨first, last, rfl⟩ := List.length_eq_two.mp (Option.some.inj h).symm
    exact ⟨_, _, _, fun part => ⟨_, rfl, fun s => rfl⟩⟩
  case h_4 =>
    obtain ⟨station, rfl⟩ := List.length_eq_one_iff.mp (Option.some.inj h).symm
    exact ⟨_, _, _, fun part => ⟨_, rfl, fun s => rfl⟩⟩
  case h_6 =>
    obtain ⟨n, rfl⟩ := List.length_eq_one_iff.mp (Option.some.inj h).symm
    exact ⟨_, _, _, fun part => ⟨_, rfl, fun s => rfl⟩⟩
  case h_12 =>
    have hlen : args.length = 512 := (Option.some.inj h).symm
    exact ⟨_, _, _, fun part => ⟨_, rfl, exec_loadConfig_of_length hlen part⟩⟩
  case h_13 => cases h
  all_goals
    obtain rfl := List.length_eq_zero_iff.mp (Option.some.inj h).symm
    exact ⟨_, _, _, fun part => ⟨_, rfl, fun s => rfl⟩⟩

theorem exists_of_tapComplete {received : List Byte} (h : tapComplete received = true) :
    ∃ code args n, received = code :: args ∧ tapArguments code.toNat = some n ∧ n ≤ args.length := by
  unfold tapComplete at h
  split at h
  · cases h
  · split at h
    · cases h
    · exact ⟨_, _, _, rfl, ‹_›, of_decide_eq_true h⟩

/-- Bytes that begin with a complete command are read as that command; those behind its arguments are ignored (R156, R158). -/
theorem decodeTap_of_complete {code : Byte} {args : List Byte} {n : Nat} {part : TapPart} {i : Instr}
    (hn : tapArguments code.toNat = some n) (hle : n ≤ args.length)
    (hi : tapCommandOf code.toNat (args.take n) part = some i) : decodeTap (code :: args) part = i := by
  rw [decodeTap, hn]
  dsimp only
  rw [if_pos hle, hi, Option.getD_some]

/-- Bytes that spell a complete known command are a transaction of its code and arguments, whatever part of it they stand for (R156). -/
theorem exec_decodeTap {code : Byte} {args : List Byte} {n : Nat} (hn : tapArguments code.toNat = some n)
    (hle : n ≤ args.length) :
    ∃ (response : State → List Byte) (take : State → Nat) (effect : Latch → State → State), ∀ part s,
      exec (decodeTap (code :: args) part) s =
        .next (s.tapCommand code.toNat (args.take n) part response take effect) := by
  obtain ⟨response, take, effect, hexec⟩ :=
    exec_tapCommandOf (hn.trans (congrArg some (List.length_take_of_le hle).symm))
  refine ⟨response, take, effect, fun part s => ?_⟩
  obtain ⟨i, hi, hs⟩ := hexec part
  rw [decodeTap_of_complete hn hle hi, hs]

theorem byteOf_toNat_byte (code : Byte) : byteOf code.toNat = code :=
  (BitVec.ofNat_toNat 8 code).trans (BitVec.setWidth_eq code)

/-- Further bits of a command that do not complete it (R155, R156). -/
theorem exec_decodeTap_arriving {s : State} {code : Byte} {args : List Byte} {clocks : Nat}
    (hn : tapArguments code.toNat = some args.length) (h : s.underway (bitsOfBytes (code :: args)))
    (hlt : s.tap.dout.length + clocks < 8 * (args.length + 1)) :
    exec (decodeTap (code :: args) (.arriving clocks)) s =
      .next (s.transact (Opened.ofBits ((bitsOfBytes (code :: args)).take (s.tap.dout.length + clocks)))
        (s.tap.dout.length + clocks)) := by
  obtain ⟨response, take, effect, hexec⟩ := exec_decodeTap hn (Nat.le_refl _)
  have hbits : s.tap.dout.length + clocks < (bitsOfBytes (code :: args)).length := by
    rwa [length_bitsOfBytes]
  rw [hexec, List.take_length, State.tapCommand, byteOf_toNat_byte]
  exact congrArg _ (State.arrive_underway h hbits _)

/-- The pin in a transaction under way (R156, R172). -/
theorem State.tapDo_of_underway {s : State} {o : Opened} (hp : s.power = .running) (hlow : s.tapSelectLow = true)
    (htrans : s.tap.trans = .opened o) (hlatch : o.latch = none) :
    s.tapDo =
      some (if s.tap.dout.length < 8 then s.tap.status.getLsbD (7 - s.tap.dout.length) else false) := by
  rw [State.tapDo, if_pos ⟨hp, hlow⟩, htrans]
  exact congrArg some (Opened.output_getD_of_unlatched hlatch _ _)

theorem State.takeCount_eq (n : Byte) (s : State) :
    s.takeCount n = if 1 ≤ n.toNat ∧ n.toNat ≤ 32 then min n.toNat s.tap.queue.length else 0 := by
  simp [State.takeCount, takeInRange]

/-- Settles O47. -/
theorem completedCommandIsHeldToTheEdge : Obligations.CompletedCommandIsHeldToTheEdge := by
  refine ⟨fun s code args clocks hn h hlt => ?_, fun s first last station n image => ?_,
    fun received clocks s hcomplete => ?_⟩
  · intro m bits
    have hout (o : Opened) (ho : o.latch = none) : o.shifted s.tap.status m = outLevels s.tap.status args.length [] m :=
      Opened.shifted_of_unlatched ho _ _ _
    have hlen : (s.transact (Opened.ofBits bits) m).tap.dout.length = m := Opened.length_shifted _ _ _
    refine ⟨s.transact (Opened.ofBits bits) m, exec_decodeTap_arriving hn h hlt, ?_, ⟨?_, ?_⟩, fun hp hlow => ?_⟩
    · rw [State.transact, hout _ (Opened.ofBits_latch _), Opened.ofBits_take hn hlt]
    · rw [hlen]
      rfl
    · rw [hlen, length_bitsOfBytes]
      exact hlt.le
    · have hpin := State.tapDo_of_underway (s := s.transact (Opened.ofBits bits) m) hp hlow rfl (Opened.ofBits_latch bits)
      rwa [hlen] at hpin
  · intro held k
    have hk : s.takeCount n = k := s.takeCount_eq n
    have hcomplete {code : Nat} {args : List Byte} (hn : tapArguments (byteOf code).toNat = some args.length)
        (response : State → List Byte) (take : State → Nat) (effect : Latch → State → State) :
        held (byteOf code) args (response s) (take s)
          (.next (s.tapCommand code args .complete response take effect)) :=
      fun h => congrArg _ (State.tapCommand_completed hn h response take effect)
    have htake := hcomplete (code := 0x06) (args := [n]) rfl (State.eventsResponse n) (State.takeCount n)
      (takeEffect (takeInRange n))
    rw [State.eventsResponse, hk] at htake
    exact ⟨hcomplete rfl _ _ _, hcomplete rfl _ _ _, hcomplete rfl _ _ _, hcomplete rfl _ _ _, hcomplete rfl _ _ _, htake,
      hcomplete rfl _ _ _, hcomplete rfl _ _ _, hcomplete rfl _ _ _, hcomplete rfl _ _ _, hcomplete rfl _ _ _,
      fun hlen => exec_loadConfig_of_length hlen .complete s ▸ hcomplete (code := 0x20) (congrArg some hlen.symm) _ _ _⟩
  · obtain ⟨code, args, n, rfl, hn, hle⟩ := exists_of_tapComplete hcomplete
    obtain ⟨response, take, effect, hexec⟩ := exec_decodeTap hn hle
    refine ⟨_, hexec .complete s, ?_⟩
    rw [hexec, hexec]
    rfl

/-! ### The bytes of a command read back (R158, R170) -/

/-- Every command that is part of a tap transaction names itself by its bytes (R170). -/
theorem tapBytes_statement (i : Instr) : Laws.TapBytes.Statement i := by
  cases i with
  | readStatus part => exact Laws.TapBytes.readStatus part
  | readCounters part => exact Laws.TapBytes.readCounters part
  | readRoster first last part => exact Laws.TapBytes.readRoster first last part
  | readPoints station part => exact Laws.TapBytes.readPoints station part
  | readTerms part => exact Laws.TapBytes.readTerms part
  | takeEvents n part => exact Laws.TapBytes.takeEvents n part
  | withdraw part => exact Laws.TapBytes.withdraw part
  | rejoin part => exact Laws.TapBytes.rejoin part
  | repack part => exact Laws.TapBytes.repack part
  | clearCounters part => exact Laws.TapBytes.clearCounters part
  | restart part => exact Laws.TapBytes.restart part
  | loadConfig image part => exact Laws.TapBytes.loadConfig image part
  | _ => exact fun _ h => nomatch h

/-- Bytes that spell no complete known command are read as MALFORMED with those bytes (R156). -/
theorem decodeTap_of_incomplete {received : List Byte} (h : tapComplete received = false) (part : TapPart) :
    decodeTap received part = .malformed { received := received } := by
  cases received with
  | nil => rfl
  | cons code args =>
    cases hn : tapArguments code.toNat with
    | none => simp [decodeTap, hn]
    | some n =>
      have hshort : ¬ n ≤ args.length := by simpa [tapComplete, hn] using h
      simp [decodeTap, hn, hshort]

/-- A command with bytes of its own that is no part of a tap transaction is a MALFORMED that ends with whole bytes (R156, R170). -/
theorem eq_malformed_of_encodeTap {i : Instr} {bytes : List Byte} (hbytes : encodeTap i = some bytes)
    (hpart : tapPartOf i = none) : i = .malformed { received := bytes } := by
  cases i with
  | malformed bits =>
    obtain ⟨received, spare, rises⟩ := bits
    rw [encodeTap] at hbytes
    split at hbytes
    · rename_i hends
      obtain ⟨rfl, rfl⟩ := hends
      cases hbytes
      rfl
    · cases hbytes
  | _ => cases hpart <;> cases hbytes

/-- Settles O46. -/
theorem tapBytesReadBack : Obligations.TapBytesReadBack := by
  intro i part bytes extra hwf hbytes
  refine ⟨fun hpart => ?_, fun hpart => ?_⟩
  · obtain ⟨code, args, n, hcode, hn, hlen, hi⟩ := tapBytes_statement i part hpart
    obtain rfl : code :: args = bytes := Option.some.inj (hcode.symm.trans hbytes)
    obtain rfl := hlen hwf
    have hle : args.length ≤ (args ++ extra).length := by simp
    have hargs : (args ++ extra).take args.length = args := List.take_left
    exact decodeTap_of_complete hn hle (hargs.symm ▸ hi)
  · obtain rfl := eq_malformed_of_encodeTap hbytes hpart
    have hincomplete : tapComplete bytes = false := by
      simp only [Instr.wf, Bool.and_eq_true, Bool.not_eq_true'] at hwf
      exact hwf.1
    exact decodeTap_of_incomplete hincomplete part

/-! ### Reads and TAKE EVENTS at the rising edge (R156, R158, R164) -/

/-- A held read at the rising edge: its result, and nothing else (R158). -/
theorem State.tapCommand_read {s : State} {code : Nat} {args : List Byte} {l : Latch} (h : s.holds (byteOf code) args l)
    (hn : tapArguments (byteOf code).toNat = some args.length) (clocks : Nat) (response : State → List Byte)
    (accepted : Bool) :
    s.tapCommand code args (.rising clocks) response noTake (readEffect accepted) =
      s.ended (if accepted then .accepted else .refused) (s.outAfter args.length l clocks) := by
  rw [State.tapCommand_held h hn]
  exact State.result_endTransaction _ _ _

/-- An entry is taken exactly if its six bytes went out behind status byte, argument byte and count byte (R164). -/
theorem lt_entriesTaken_iff {take clocks i : Nat} (hi : i < take) :
    i < entriesTaken take clocks ↔ 8 * (3 + 6 * (i + 1)) ≤ clocks := by
  rw [entriesTaken, lt_min_iff]
  omega

/-- TAKE EVENTS at the rising edge of a transaction that holds it (R156, R164). -/
theorem exec_takeEvents_held {s : State} {l : Latch} {n : Byte} (h : s.holds 0x06 [n] l) (clocks : Nat) :
    exec (.takeEvents n (.rising clocks)) s =
      .next (takeEffect (takeInRange n) l (s.shiftedOut (s.outAfter 1 l clocks))).endTransaction :=
  congrArg _ (State.tapCommand_held h rfl clocks (State.eventsResponse n) (State.takeCount n) (takeEffect (takeInRange n)))

theorem State.outAfter_length (s : State) (args : Nat) (l : Latch) (clocks : Nat) :
    (s.outAfter args l clocks).length = s.tap.dout.length + clocks := outLevels_length _ _ _ _

/-- Settles O49. -/
theorem readsAndTakesEndTransaction : Obligations.ReadsAndTakesEndTransaction := by
  refine ⟨fun s l clocks first last station => ?_, fun s l clocks n h => ?_⟩
  · intro done
    have hread {code : Nat} {args : List Byte} {p : Prop} [Decidable p] (h : s.holds (byteOf code) args l)
        (hn : tapArguments (byteOf code).toNat = some args.length) (response : State → List Byte) :
        done args.length p (.next (s.tapCommand code args (.rising clocks) response noTake (readEffect (decide p)))) := by
      rw [State.tapCommand_read h hn]
      exact ⟨fun hp => by rw [decide_eq_true hp]; rfl, fun hp => by rw [decide_eq_false hp]; rfl⟩
    exact ⟨fun h => hread h rfl _, fun h => hread h rfl _, fun h => hread h rfl _, fun h => hread h rfl _,
      fun h => hread h rfl _⟩
  · intro out
    have hlen : out.length = s.tap.dout.length + clocks := s.outAfter_length 1 l clocks
    rw [exec_takeEvents_held h]
    refine ⟨fun hlow hhigh => ⟨entriesTaken l.take out.length, ?_, Nat.min_le_left _ _, fun i hi => ?_⟩, fun hrange => ?_⟩
    · rw [show takeInRange n = true from decide_eq_true ⟨hlow, hhigh⟩]
      exact ended_of_effect rfl
    · rw [lt_entriesTaken_iff hi, hlen]
    · rw [show takeInRange n = false from decide_eq_false (by omega)]
      exact ended_of_effect rfl

/-! ### Commands unknown or incomplete (R155, R156) -/

/-- The bits of a transaction without a complete known command, all in (R156). -/
theorem State.receive_of_underway {s : State} {bits : List Level} (h : s.underway bits) :
    s.receive bits =
      { s with
        tap := { s.tap with
          trans := .opened (Opened.ofBits bits), dout := outLevels s.tap.status 0 [] bits.length } } := by
  obtain ⟨htrans, hle⟩ := h
  have hunlatched : ({ Opened.ofBits bits with latch := none } : Opened) = Opened.ofBits bits := by
    rw [← Opened.ofBits_latch bits]
  rw [State.receive, State.arrive_completes _ _ _ _ htrans (by omega), hunlatched, Nat.add_sub_cancel' hle, State.transact,
    Opened.shifted_of_unlatched (Opened.ofBits_latch bits) _ 0]

/-- Chip select rises on a transaction without a complete known command, all its bits in (R156). -/
theorem State.riseMalformed_receive {s : State} {bits : List Level} (h : s.underway bits) :
    (s.receive bits).riseMalformed bits = s.ended .malformed (outLevels s.tap.status 0 [] bits.length) := by
  rw [State.receive_of_underway h, State.riseMalformed]
  dsimp only
  rw [if_pos rfl, State.endTransaction_eq]
  rfl

/-- LOAD CONFIG short of its 512 bytes, from chip select low to high (R156). -/
theorem exec_loadConfig_short {image : List Byte} (h : image.length < 512) (clocks : Nat) (s : State) :
    exec (.loadConfig image (.whole clocks)) s =
      .next ((s.receive (bitsOfBytes (0x20 :: image))).riseMalformed (bitsOfBytes (0x20 :: image))) := by
  have htake : image.take Config.imageBytes = image := List.take_of_length_le h.le
  simp only [exec, execLoadConfig, htake]
  exact if_neg h.ne

/-- Settles O52. -/
theorem malformedEndsWithoutEffect : Obligations.MalformedEndsWithoutEffect := by
  refine ⟨fun s received spare => ?_, fun code more => Opened.ofBits_unknown more, fun s image clocks hlen h => ?_⟩
  · intro bits h hincomplete
    have hincomplete' : ¬ tapComplete (bytesOfBits bits) = true := Bool.eq_false_iff.mp hincomplete
    rw [← State.riseMalformed_receive h, ← State.receive_of_underway h]
    exact ⟨if_neg hincomplete', if_neg hincomplete'⟩
  · rw [exec_loadConfig_short hlen, State.riseMalformed_receive h, length_bitsOfBytes]
    rfl

end Sys2Proof.Machine

namespace Sys2Proof.Machine

/-! ### What a command leaves outside the part, of the published copy and of the queue (R161, R163; log 1) -/

/-- What lies outside the part: the commands waiting, and what is to come on the line, from the memory and on the contacts. -/
def State.outside (s : State) : List Instr × List LineBit × List Byte × List (BitVec 16) :=
  (s.pending, s.lineIn, s.cfgIn, s.contactIn)

/-- From `t` to `t'` no entry leaves the queue, and a transaction that is open stays open with the published copy it found. -/
structure Tap.Holds (t t' : Tap) : Prop where
  queue : t.queue <+: t'.queue
  stays : t.trans ≠ .idle → t'.trans ≠ .idle
  copy : t.trans ≠ .idle → t'.published = t.published

theorem Tap.Holds.refl (t : Tap) : t.Holds t := ⟨List.prefix_rfl, id, fun _ => rfl⟩

theorem Tap.Holds.trans {t u v : Tap} (h : t.Holds u) (h' : u.Holds v) : t.Holds v :=
  ⟨h.queue.trans h'.queue, h'.stays ∘ h.stays, fun ht => (h'.copy (h.stays ht)).trans (h.copy ht)⟩

theorem Posts.holds {t t' : Tap} (h : Posts t t') : t.Holds t' :=
  ⟨h.queue_grows, fun ht => h.trans_eq ▸ ht, fun _ => h.published_eq⟩

/-- A copy staged at a close waits for the end of an open transaction (R161). -/
theorem State.stageCopy_holds (s : State) : s.tap.Holds s.stageCopy.tap := by
  rcases htrans : s.tap.trans with _ | o
  · rw [State.stageCopy_of_idle htrans]
    exact ⟨List.prefix_rfl, id, fun h => absurd htrans h⟩
  · rw [State.stageCopy_of_opened htrans]
    exact ⟨List.prefix_rfl, id, fun _ => rfl⟩

theorem State.closeWork_holds (cfg : Configuration) (cut : Option Cursor) (s : State) :
    s.tap.Holds (s.closeWork cfg cut).tap := by
  obtain ⟨t, -, hposts, hclose⟩ := State.closeWork_tap cfg cut s
  rw [hclose]
  exact hposts.holds.trans t.stageCopy_holds

theorem State.boundary_holds (cfg : Configuration) (cursor : Cursor) (s : State) :
    s.tap.Holds (s.boundary cfg cursor).tap := by
  simp only [State.boundary]
  split
  · exact State.closeWork_holds cfg none (State.count Counters.bumpCloses { s with trk := s.trk.closeWalk })
  · split
    · rw [State.openOwnSlot_tap]
      exact .refl s.tap
    · exact .refl s.tap

theorem State.cutIfOpen_holds (cfg : Configuration) (s : State) : s.tap.Holds (s.cutIfOpen cfg).tap := by
  unfold State.cutIfOpen
  split
  · rename_i cursor _
    have htap : (if cursor.below cfg.own then s.passedUnopened cfg else s).tap = s.tap := by
      split
      · exact State.passedUnopened_tap cfg s
      · rfl
    rw [← htap]
    exact State.closeWork_holds cfg (some cursor) (State.count (fun c => c.bumpCloses.bumpCutCloses)
      { (if cursor.below cfg.own then s.passedUnopened cfg else s) with
        trk := (if cursor.below cfg.own then s.passedUnopened cfg else s).trk.closeWalk })
  all_goals exact .refl s.tap

/-- A mark recognised, whichever of loss and cut is taken first (R97). -/
theorem State.markRecognised_holds (cfg : Configuration) (s : State) :
    s.tap.Holds (s.loseUnderMark.cutIfOpen cfg).tap ∧ s.tap.Holds (s.cutIfOpen cfg).loseUnderMark.tap :=
  ⟨s.loseUnderMark_posts.holds.trans (State.cutIfOpen_holds cfg _),
    (State.cutIfOpen_holds cfg s).trans (State.loseUnderMark_posts _).holds⟩

/-- From `s` to `t` what lies outside the part stands and, where the queue is to be spared, no entry leaves it. -/
structure Spares (spares : Prop) (s t : State) : Prop where
  outside : t.outside = s.outside := by simp [State.outside]
  queue : spares → s.tap.queue <+: t.tap.queue := by exact fun _ => List.prefix_rfl

/-- Beside that, a published copy changes only with no transaction open, before or after. -/
structure Leaves (spares : Prop) (s t : State) : Prop extends Spares spares s t where
  copy : s.tap.trans ≠ .idle → t.tap.trans ≠ .idle → t.tap.published = s.tap.published

section
variable {spares : Prop} {s t u : State}

theorem Leaves.of_holds (h : s.tap.Holds t.tap) (ho : t.outside = s.outside := by simp [State.outside]) :
    Leaves spares s t :=
  { outside := ho, queue := fun _ => h.queue, copy := fun hs _ => h.copy hs }

theorem Leaves.of_posts (h : Posts s.tap t.tap) (ho : t.outside = s.outside := by simp [State.outside]) :
    Leaves spares s t := .of_holds h.holds ho

theorem Leaves.of_tap (h : t.tap = s.tap) (ho : t.outside = s.outside := by simp [State.outside]) :
    Leaves spares s t := .of_posts (.of_eq h) ho

theorem Leaves.refl (s : State) : Leaves spares s s := .of_tap rfl rfl

/-- No transaction is open afterwards. -/
theorem Leaves.of_idle (h : Spares spares s t) (hidle : t.tap.trans = .idle) : Leaves spares s t :=
  { h with copy := fun _ ht => absurd hidle ht }

theorem Leaves.after_holds (h : s.tap.Holds u.tap) (ho : u.outside = s.outside) (h' : Leaves spares u t) :
    Leaves spares s t where
  outside := h'.outside.trans ho
  copy := fun hs ht => (h'.copy (h.stays hs) ht).trans (h.copy hs)
  queue := fun hspares => h.queue.trans (h'.queue hspares)

end

/-! ### The tap's commands -/

theorem State.transact_holds (o : Opened) (clocks : Nat) (s : State) : s.tap.Holds (s.transact o clocks).tap :=
  ⟨List.prefix_rfl, fun _ => nofun, fun _ => rfl⟩

theorem State.endTransaction_leaves {spares : Prop} {s t : State} (h : Spares spares s t) :
    Leaves spares s t.endTransaction := by
  refine .of_idle { outside := ?_, queue := fun hspares => ?_ } rfl
  · simpa [State.outside] using h.outside
  · rw [State.endTransaction_tap_queue]
    exact h.queue hspares

/-- A tap command leaves what its effect does (R156). -/
theorem State.tapCommand_leaves {spares : Prop} {code : Nat} {args : List Byte} {part : TapPart}
    {response : State → List Byte} {take : State → Nat} {effect : Latch → State → State} (s : State)
    (he : ∀ l u, Spares spares u (effect l u)) :
    Leaves spares s (s.tapCommand code args part response take effect) := by
  rcases s.tapCommand_cases code args part response take effect with
    h | h | ⟨o, clocks, -, h⟩ | ⟨l, o, clocks, -, h⟩ <;> rw [h]
  · exact .refl s
  · exact .of_tap rfl
  · exact .of_holds (State.transact_holds o clocks s)
  · have heffect := he l (s.transact o clocks)
    exact State.endTransaction_leaves ⟨heffect.outside, heffect.queue⟩

section
variable {spares : Prop}

theorem readEffect_spares (accepted : Bool) (l : Latch) (s : State) : Spares spares s (readEffect accepted l s) := {}

/-- TAKE EVENTS does take entries from the queue (R164). -/
theorem takeEffect_spares (accepted : Bool) (l : Latch) (s : State) :
    Spares (false = true) s (takeEffect accepted l s) := { queue := nofun }

theorem State.withdrawEffect_spares (s : State) : Spares spares s s.withdrawEffect := by
  rcases s.withdrawEffect_cases with ⟨-, -, h⟩ | h <;> rw [h] <;> exact {}

theorem State.rejoinEffect_spares (s : State) : Spares spares s s.rejoinEffect := by
  rcases s.rejoinEffect_cases with ⟨-, -, h⟩ | ⟨-, h⟩ | h <;> rw [h]
  · exact {}
  · exact { queue := fun _ => (s.enterListen_posts _).queue_grows }
  · exact {}

theorem State.repackEffect_spares (s : State) : Spares spares s s.repackEffect := by
  rcases s.repackEffect_cases with ⟨-, h⟩ | ⟨-, h⟩ <;> rw [h] <;> exact {}

theorem State.clearEffect_spares (s : State) : Spares spares s s.clearEffect := {}

/-- The entry to LOADING by LOAD CONFIG keeps the queue, its STATE event behind the entries (R110, R163). -/
theorem State.loadEntry_spares (image : List Byte) (s : State) : Spares spares s (s.loadEntry image) where
  outside := by simp [State.outside, State.loadEntry]
  queue := fun _ => by
    refine List.IsPrefix.trans ?_ (State.postLoading_posts detailLoadConfig _).queue_grows
    exact List.prefix_rfl

theorem State.loadEffect_spares (image : List Byte) (s : State) : Spares spares s (s.loadEffect image) := by
  rcases s.loadEffect_cases image with ⟨-, -, h⟩ | ⟨-, -, h⟩ | ⟨-, h⟩ <;> rw [h]
  · exact {}
  · exact {}
  · exact s.loadEntry_spares image

/-- RESTART empties the queue (R109, R163). -/
theorem State.restartEffect_spares (s : State) : Spares (false = true) s s.restartEffect where
  outside := by simp [State.outside, State.restartEffect]
  queue := nofun

theorem State.arrive_holds (bits : List Level) (latch : Option Latch) (clocks : Nat) (s : State) :
    s.tap.Holds (s.arrive bits latch clocks).tap := by
  rcases s.arrive_cases bits latch clocks with h | ⟨-, o, h⟩ <;> rw [h]
  · exact .refl s.tap
  · exact s.transact_holds o _

theorem State.riseMalformed_leaves (bits : List Level) (s : State) : Leaves spares s (s.riseMalformed bits) := by
  rcases s.riseMalformed_cases bits with h | h | ⟨-, h⟩ <;> rw [h]
  · exact .refl s
  · exact .of_tap rfl
  · exact State.endTransaction_leaves {}

theorem State.receive_riseMalformed_leaves (bits : List Level) (s : State) :
    Leaves spares s ((s.receive bits).riseMalformed bits) :=
  .after_holds (s.arrive_holds bits none _) (by simp [State.outside]) (State.riseMalformed_leaves bits _)

end

/-! ### The commands -/

/-- Every command but a reset, TAKE EVENTS and RESTART (R163). -/
def sparesQueue : Instr → Bool
  | .powerOn _ | .resetNLow | .resetNRising _ | .takeEvents _ _ | .restart _ => false
  | _ => true

/-- A reset leaves no transaction and nothing in the queue but its STATE event (R106, R155). -/
theorem State.boot_leaves (strap : Strap) (detail : Nat) (s : State) :
    Leaves (false = true) s (s.boot strap detail) := by
  rw [State.boot_eq]
  exact .of_idle { outside := rfl, queue := nofun } rfl

/-- The command is carried out, and leaves the copy of an open transaction, and the queue where it is to be spared. -/
def Answers (spares : Prop) (s : State) (answer : Host.Outcome State Fault Refusal) : Prop :=
  ∃ t, answer = .next t ∧ Leaves spares s t

section
variable {spares : Prop} {s t : State}

theorem Answers.next (h : Leaves spares s t) : Answers spares s (.next t) := ⟨t, rfl, h⟩

theorem Answers.refl (s : State) : Answers spares s (.next s) := .next (.refl s)

theorem Answers.of_tap (h : t.tap = s.tap) (ho : t.outside = s.outside := by simp [State.outside]) :
    Answers spares s (.next t) := .next (.of_tap h ho)

theorem Answers.of_posts (h : Posts s.tap t.tap) (ho : t.outside = s.outside := by simp [State.outside]) :
    Answers spares s (.next t) := .next (.of_posts h ho)

end

theorem exec_answers (c : Instr) (s : State) : Answers (sparesQueue c = true) s (exec c s) := by
  cases c with
  | powerOn strap => exact .next (s.boot_leaves strap _)
  | resetNLow => exact .next (.of_idle { outside := rfl, queue := nofun } rfl)
  | resetNRising strap =>
    simp only [exec, execResetNRising]
    split
    · exact .next (s.boot_leaves strap _)
    · exact .next (s.boot_leaves strap _)
    · exact .refl s
  | readingComplete bytes =>
    simp only [exec, execReadingComplete]
    split
    · exact .of_tap rfl
    · exact .refl s
  | checkingComplete raw =>
    simp only [exec, execCheckingComplete]
    split
    · split
      · exact .of_posts (s.configGood_posts raw)
      · exact .of_posts (s.configBad_posts _)
    all_goals exact .refl s
  | roundTimerExpiry =>
    simp only [exec, execRoundTimerExpiry]
    split
    · split <;> exact .of_tap rfl
    all_goals exact .refl s
  | markBegin =>
    simp only [exec, execMarkBegin]
    split
    · exact .of_tap rfl
    · exact .refl s
  | markFailed => exact .of_tap rfl
  | markRelease => exact .of_tap rfl
  | markRecognised lossFirst =>
    simp only [exec, execMarkRecognised]
    split
    · exact .refl s
    · rename_i cfg _
      split
      · split
        · exact .next (.of_holds (State.markRecognised_holds cfg
            (State.restartTimer { s with rx := Receiver.idleAfter dominant })).1)
        · exact .next (.of_holds (State.markRecognised_holds cfg
            (State.restartTimer { s with rx := Receiver.idleAfter dominant })).2)
      · exact .refl s
  | markEnd =>
    simp only [exec, execMarkEnd]
    split
    · exact .of_tap rfl
    · exact .refl s
  | slotBoundary =>
    simp only [exec, execSlotBoundary]
    split
    · exact .next (.of_holds (s.sawRecessive_tap ▸ State.boundary_holds _ _ s.sawRecessive))
    · exact .of_tap s.sawRecessive_tap
    · exact .of_tap s.sawRecessive_tap
    · exact .refl s
  | startBit taken =>
    simp only [exec, execStartBit]
    split
    · split <;> exact .of_tap rfl
    · exact .refl s
  | collision bit =>
    simp only [exec, execCollision]
    split
    · exact .of_tap (s.foreignFrom_tap bit)
    · exact .refl s
  | transceiverFault bit =>
    simp only [exec, execTransceiverFault]
    split
    · exact .of_posts (s.foreignFrom_tap bit ▸ State.attemptLost_posts (s.foreignFrom bit))
    · exact .refl s
  | attemptSent =>
    simp only [exec, execAttemptSent]
    split
    · exact .of_posts (State.attemptWasSent_posts { s with rx := Receiver.idleAfter dominant })
    · exact .refl s
  | frameReceived levels lossFirst =>
    simp only [exec, execFrameReceived]
    split
    · exact .refl s
    split
    · split
      · split
        · exact .of_tap rfl
        · exact .of_posts (State.foreignFrame_posts _ _ _ _ { s with rx := Receiver.idleAfter dominant })
      all_goals exact .refl s
    · exact .refl s
  | badFrame levels =>
    simp only [exec, execBadFrame]
    split
    · exact .refl s
    split
    · split
      · exact .of_posts ((Posts.of_eq (by split <;> rfl)).trans (State.settleTakenOver_posts false _)) (by
          split <;> simp [State.outside])
      all_goals exact .refl s
    · exact .refl s
  | stuck =>
    simp only [exec, execStuck]
    split
    · exact .of_posts s.enterStuck_posts
    · exact .refl s
  | lineClear =>
    simp only [exec, execLineClear]
    split
    · split
      · exact .of_posts (State.enterTxFault_posts { s with rx := Receiver.fresh })
      · exact .of_posts (State.enterListen_posts _ { s with rx := Receiver.fresh, trk := s.trk.startTimer })
    · exact .refl s
  | tick sample =>
    simp only [exec, execTick]
    split
    · exact .of_posts (State.acceptInputs_posts _ _ s)
    all_goals exact .of_tap rfl
  | inputAccepted =>
    simp only [exec, execInputAccepted]
    split
    · exact .of_posts (State.acceptInputs_posts _ _ s)
    all_goals exact .refl s
  | chipSelectFalling =>
    simp only [exec, execChipSelectFalling]
    split
    · rename_i hfalls
      exact .next { copy := fun hopen => absurd hfalls.2.2 hopen }
    · exact .of_tap rfl
  | readStatus part => exact .next (s.tapCommand_leaves (readEffect_spares _))
  | readCounters part => exact .next (s.tapCommand_leaves (readEffect_spares _))
  | readRoster first last part => exact .next (s.tapCommand_leaves (readEffect_spares _))
  | readPoints station part => exact .next (s.tapCommand_leaves (readEffect_spares _))
  | readTerms part => exact .next (s.tapCommand_leaves (readEffect_spares _))
  | takeEvents n part => exact .next (s.tapCommand_leaves (takeEffect_spares _))
  | withdraw part => exact .next (s.tapCommand_leaves fun _ => State.withdrawEffect_spares)
  | rejoin part => exact .next (s.tapCommand_leaves fun _ => State.rejoinEffect_spares)
  | repack part => exact .next (s.tapCommand_leaves fun _ => State.repackEffect_spares)
  | clearCounters part => exact .next (s.tapCommand_leaves fun _ => State.clearEffect_spares)
  | restart part => exact .next (s.tapCommand_leaves fun _ => State.restartEffect_spares)
  | loadConfig image part =>
    simp only [exec, execLoadConfig]
    split
    · exact .next (s.tapCommand_leaves fun _ => State.loadEffect_spares _)
    · split
      · exact .next (.of_holds (s.arrive_holds _ _ _))
      · exact .next (.of_holds (s.arrive_holds _ _ _))
      · exact .next (s.riseMalformed_leaves _)
      · exact .next (s.receive_riseMalformed_leaves _)
  | malformed bits =>
    simp only [exec, execMalformed]
    split
    · exact .refl s
    split
    · exact .next (s.receive_riseMalformed_leaves _)
    · exact .next (.of_holds (s.arrive_holds _ _ _))

/-- Settles O2. -/
theorem everyCommandAnswersNextState : Obligations.EveryCommandAnswersNextState := by
  intro c s
  obtain ⟨t, hexec, hleaves⟩ := exec_answers c s
  have hout := hleaves.outside
  simp only [State.outside, Prod.mk.injEq] at hout
  exact ⟨t, hexec, hout⟩

theorem exec_leaves {c : Instr} {s t : State} (h : exec c s = .next t) : Leaves (sparesQueue c = true) s t := by
  obtain ⟨u, hexec, hleaves⟩ := exec_answers c s
  cases hexec.symm.trans h
  exact hleaves

theorem sparesQueue_of_ne {c : Instr} (hpower : ∀ strap, c ≠ .powerOn strap ∧ c ≠ .resetNRising strap) (hlow : c ≠ .resetNLow)
    (htake : ∀ n part, c ≠ .takeEvents n part) (hrestart : ∀ part, c ≠ .restart part) : sparesQueue c = true := by
  unfold sparesQueue
  split
  · exact absurd rfl (hpower _).1
  · exact absurd rfl hlow
  · exact absurd rfl (hpower _).2
  · exact absurd rfl (htake _ _)
  · exact absurd rfl (hrestart _)
  · rfl

/-- Settles O57. -/
theorem copyAndQueueHoldTheirContents : Obligations.CopyAndQueueHoldTheirContents := by
  refine ⟨fun s t h hs ht => ?_, fun c s t h hpower hlow htake hrestart => ?_⟩
  · unfold step at h
    split at h
    · cases h
      rw [State.clock_tap]
    · rename_i c rest _
      exact (exec_leaves (s := { s with pending := rest }) h).copy hs ht
  · obtain ⟨new, hnew⟩ := (exec_leaves h).queue (sparesQueue_of_ne hpower hlow htake hrestart)
    exact ⟨new, hnew.symm⟩

end Sys2Proof.Machine
end

section
namespace Sys2Proof.Machine

/-! ### A step that takes a command from the queue -/

/-- The step by its queue, where a command waits: what the state holds beside the queue plays no part in the choice. -/
theorem step_of_pending_eq_cons {s : State} {c : Instr} {rest : List Instr} (hqueue : s.pending = c :: rest) :
    step s = exec c { s with pending := rest } := by
  unfold step
  rw [hqueue]

/-- Settles O1: the queue put into the state is the one the step reads, and the rest put back overwrites it. -/
theorem frontCommandRunsOnQueueRest : Obligations.FrontCommandRunsOnQueueRest := by
  intro c rest s
  exact step_of_pending_eq_cons (s := { s with pending := c :: rest }) rfl

end Sys2Proof.Machine
end

section
/-! PROOFS of the statement on the laws of station, loader, walk, timer, sender and configuration. -/

-- One proof after another, as in the sections above: every thread that elaborates a proof reserves a stack of its own.
set_option Elab.async false

namespace Sys2Proof.Machine

/-! ### The station laws by the blocks they bind (R53, R88, R89, R97, R104, R117, R142, R144, R151) -/

/-- Loader, supply and accepted configuration agree with the station state (R142, R144, R151). -/
structure LoaderAgrees (s : State) : Prop where
  held : s.ldr.config.isSome = !s.ctl.station.unconfigured
  loading : s.ldr.phase ≠ .idle → s.ctl.station = .loading
  pins : s.ldr.phase ≠ .reading → s.ldr.command = [] ∧ s.ldr.selectLow = false
  power : s.power ≠ .running → s.ctl.station = .loading ∧ s.ldr.phase = .idle ∧ s.tap.trans = .idle
  accepted : ∀ cfg, s.ldr.config = some cfg → cfg.inRange

/-- Walk, timer and marks agree with the station state, and the cursor with the configuration (R49, R50, R53, R54). -/
structure RoundAgrees (s : State) : Prop where
  walk : s.ctl.station.receives = false → s.trk.walk = .idle ∧ s.trk.inMark = false
  timer : s.ctl.station.timing = false → s.trk.timer = .stopped ∧ s.trk.markDue = false ∧ s.line.mark = none
  cursor : ∀ cfg n, s.ldr.config = some cfg → s.trk.walk = .opened (.slot n) → n ≤ cfg.high

/-- Attempt, withdrawal, losses and listen count agree with the station state (R88, R97, R103, R112, R117, R119). -/
structure SenderAgrees (s : State) : Prop where
  attempt : s.tx.attempt ≠ .idle ∨ s.tx.kind ≠ none → s.ctl.station = .active
  withdrawal : s.ctl.withdrawalPending = true → s.ctl.station = .active
  listen : ∀ cfg count, s.ldr.config = some cfg → s.ctl.station = .listen count → count < cfg.listen
  limit : s.tx.losses ≤ Config.lossLimit
  zero : s.ctl.station.unconfigured = true ∨ (∃ count, s.ctl.station = .listen count) → s.tx.losses = 0
  active : s.ctl.station = .active → s.tx.losses < Config.lossLimit
  faulted : s.ctl.station = .lineFault .tx → s.ctl.txHeld = true
  txHeld : s.ctl.txHeld = true → s.tx.losses = Config.lossLimit ∧ ∃ r, s.ctl.station = .lineFault r

/-- The three station laws at once. -/
structure Stands (s : State) : Prop where
  loader : LoaderAgrees s
  round : RoundAgrees s
  sender : SenderAgrees s

theorem stands_iff (s : State) : Stands s ↔ StationLaw s ∧ ConfigurationLaw s ∧ LossLaw s := by
  constructor
  · rintro ⟨⟨held, loading, pins, power, accepted⟩, ⟨walk, timer, cursor⟩,
      ⟨attempt, withdrawal, listen, limit, zero, active, faulted, txHeld⟩⟩
    exact ⟨⟨held, loading, walk, timer, attempt, withdrawal, cursor, pins, power⟩,
      fun cfg hc => ⟨accepted cfg hc, fun count => listen cfg count hc⟩,
      limit, fun h => zero (.inl h), fun count h => zero (.inr ⟨count, h⟩), active, faulted, txHeld⟩
  · rintro ⟨⟨held, loading, walk, timer, attempt, withdrawal, cursor, pins, power⟩, hconf,
      limit, unconfigured, listening, active, faulted, txHeld⟩
    exact ⟨⟨held, loading, pins, power, fun cfg hc => (hconf cfg hc).1⟩, ⟨walk, timer, cursor⟩,
      ⟨attempt, withdrawal, fun cfg count hc => (hconf cfg hc).2 count, limit,
        fun h => h.elim unconfigured fun ⟨count, h⟩ => listening count h, active, faulted, txHeld⟩⟩

/-! ### What leaves the laws as they are -/

/-- From `s` to `t` nothing moves that the station laws read; without a configuration no transaction opens. -/
structure SameStanding (s t : State) : Prop where
  power : t.power = s.power := by simp
  ctl : t.ctl = s.ctl := by simp
  ldr : t.ldr = s.ldr := by simp
  trk : t.trk = s.trk := by simp
  mark : t.line.mark = s.line.mark := by simp
  attempt : t.tx.attempt = s.tx.attempt := by simp
  kind : t.tx.kind = s.tx.kind := by simp
  losses : t.tx.losses = s.tx.losses := by simp
  trans : s.ldr.config = none → s.tap.trans = .idle → t.tap.trans = .idle := by simp

/-- Out of the running condition no configuration is held. -/
theorem LoaderAgrees.config_of_power {s : State} (h : LoaderAgrees s) (hp : s.power ≠ .running) : s.ldr.config = none := by
  have hheld := h.held
  rw [(h.power hp).1] at hheld
  exact Option.isNone_iff_eq_none.mp (Option.isSome_eq_false_iff.mp hheld)

theorem LoaderAgrees.congr {s t : State} (h : LoaderAgrees s) (power : t.power = s.power)
    (station : t.ctl.station = s.ctl.station) (ldr : t.ldr = s.ldr)
    (trans : s.ldr.config = none → s.tap.trans = .idle → t.tap.trans = .idle) : LoaderAgrees t := by
  have hnone := h.config_of_power
  obtain ⟨held, loading, pins, hpower, accepted⟩ := h
  rw [← power] at hnone
  rw [← ldr, ← station] at held loading
  rw [← ldr] at pins accepted
  rw [← ldr, ← station, ← power] at hpower
  refine ⟨held, loading, pins, fun hp => ?_, accepted⟩
  obtain ⟨hstation, hphase, hidle⟩ := hpower hp
  exact ⟨hstation, hphase, trans (hnone hp) hidle⟩

theorem RoundAgrees.congr {s t : State} (h : RoundAgrees s) (station : t.ctl.station = s.ctl.station)
    (config : t.ldr.config = s.ldr.config) (trk : t.trk = s.trk) (mark : t.line.mark = s.line.mark) : RoundAgrees t := by
  obtain ⟨walk, timer, cursor⟩ := h
  constructor
  · rwa [station, trk]
  · rwa [station, trk, mark]
  · rwa [config, trk]

theorem SenderAgrees.congr {s t : State} (h : SenderAgrees s) (ctl : t.ctl = s.ctl) (config : t.ldr.config = s.ldr.config)
    (attempt : t.tx.attempt = s.tx.attempt) (kind : t.tx.kind = s.tx.kind) (losses : t.tx.losses = s.tx.losses) :
    SenderAgrees t := by
  obtain ⟨hattempt, withdrawal, listen, limit, zero, active, faulted, txHeld⟩ := h
  constructor
  · rwa [attempt, kind, ctl]
  · rwa [ctl]
  · rwa [config, ctl]
  · rwa [losses]
  · rwa [ctl, losses]
  · rwa [ctl, losses]
  · rwa [ctl]
  · rwa [ctl, losses]

theorem Stands.congr {s t : State} (h : Stands s) (hst : SameStanding s t) : Stands t where
  loader := h.loader.congr hst.power (by rw [hst.ctl]) hst.ldr hst.trans
  round := h.round.congr (by rw [hst.ctl]) (by rw [hst.ldr]) hst.trk hst.mark
  sender := h.sender.congr hst.ctl (by rw [hst.ldr]) hst.attempt hst.kind hst.losses
/-! ### From one state that holds a configuration to another -/

theorem LoaderAgrees.configured_iff {s : State} (h : LoaderAgrees s) :
    s.ctl.station.unconfigured = false ↔ ∃ cfg, s.ldr.config = some cfg := by
  rw [← Option.isSome_iff_exists, h.held, Bool.not_eq_true']

/-- A station that moves between configured states leaves loader and supply in agreement with it. -/
theorem LoaderAgrees.moves {s t : State} (h : LoaderAgrees s) (hs : s.ctl.station.unconfigured = false)
    (ht : t.ctl.station.unconfigured = false) (power : t.power = s.power) (ldr : t.ldr = s.ldr) : LoaderAgrees t := by
  obtain ⟨held, loading, pins, hpower, accepted⟩ := h
  have hbusy : s.ctl.station ≠ .loading := fun hl => by rw [hl] at hs; exact absurd hs (by decide)
  constructor
  · rw [ldr, held, hs, ht]
  · rw [ldr]
    exact fun hp => absurd (loading hp) hbusy
  · rwa [ldr]
  · rw [power]
    exact fun hp => absurd (hpower hp).1 hbusy
  · rwa [ldr]

/-- A receiving station agrees with any walk that no cursor beyond H opens; outside the timing states the timer is stopped. -/
theorem RoundAgrees.receiving {t : State} (hr : t.ctl.station.receives = true)
    (timer : t.ctl.station.timing = false → t.trk.timer = .stopped ∧ t.trk.markDue = false ∧ t.line.mark = none)
    (cursor : ∀ cfg n, t.ldr.config = some cfg → t.trk.walk = .opened (.slot n) → n ≤ cfg.high) : RoundAgrees t :=
  ⟨fun hn => absurd (hr.symm.trans hn) (by decide), timer, cursor⟩

/-- The timer runs only in stations that receive (R49, R72). -/
theorem Station.receives_of_timing {st : Station} (h : st.timing = true) : st.receives = true := by
  cases st with
  | loading | configFault _ | lineFault _ => exact nomatch h
  | listen _ | active | withdrawn | duplicate => rfl

/-- The timer runs only in stations that hold a configuration (R49, R122). -/
theorem Station.configured_of_timing {st : Station} (h : st.timing = true) : st.unconfigured = false := by
  cases st with
  | loading | configFault _ | lineFault _ => exact nomatch h
  | listen _ | active | withdrawn | duplicate => rfl

/-- Only stations that hold a configuration receive (R72, R122). -/
theorem Station.configured_of_receives {st : Station} (h : st.receives = true) : st.unconfigured = false := by
  cases st with
  | loading | configFault _ => exact nomatch h
  | listen _ | active | withdrawn | duplicate | lineFault _ => rfl

/-- A timing station agrees with any walk that no cursor beyond H opens. -/
theorem RoundAgrees.timing {t : State} (ht : t.ctl.station.timing = true)
    (cursor : ∀ cfg n, t.ldr.config = some cfg → t.trk.walk = .opened (.slot n) → n ≤ cfg.high) : RoundAgrees t :=
  .receiving (Station.receives_of_timing ht) (fun hn => absurd (ht.symm.trans hn) (by decide)) cursor

/-- Only LINE_FAULT holds a transmit fault (R117, R119). -/
theorem SenderAgrees.txHeld_eq_false {s : State} (h : SenderAgrees s) (hst : ∀ r, s.ctl.station ≠ .lineFault r) :
    s.ctl.txHeld = false :=
  Bool.eq_false_iff.mpr fun hheld => (h.txHeld hheld).2.elim hst

/-- Outside ACTIVE the sender is idle and no withdrawal is pending (R88, R117). -/
theorem SenderAgrees.idle {s : State} (h : SenderAgrees s) (hst : s.ctl.station ≠ .active) :
    s.tx.attempt = .idle ∧ s.tx.kind = none ∧ s.ctl.withdrawalPending = false :=
  ⟨by_contra fun hn => hst (h.attempt (.inl hn)), by_contra fun hn => hst (h.attempt (.inr hn)),
    Bool.eq_false_iff.mpr fun hp => hst (h.withdrawal hp)⟩

/-- A sender at rest: nothing attempted, no withdrawal pending, no transmit fault held (R88, R104). -/
structure AtRest (t : State) : Prop where
  attempt : t.tx.attempt = .idle := by rfl
  kind : t.tx.kind = none := by rfl
  withdrawal : t.ctl.withdrawalPending = false := by rfl
  txHeld : t.ctl.txHeld = false := by rfl

/-- A sender at rest agrees with every station but ACTIVE and LINE_FAULT. -/
theorem AtRest.agrees {t : State} (h : AtRest t) (hactive : t.ctl.station ≠ .active) (hfault : ∀ r, t.ctl.station ≠ .lineFault r)
    (hlimit : t.tx.losses ≤ Config.lossLimit)
    (zero : t.ctl.station.unconfigured = true ∨ (∃ count, t.ctl.station = .listen count) → t.tx.losses = 0)
    (listen : ∀ cfg count, t.ldr.config = some cfg → t.ctl.station = .listen count → count < cfg.listen) :
    SenderAgrees t where
  attempt := fun hn => absurd hn (by simp [h.attempt, h.kind])
  withdrawal := fun hp => absurd hp (by simp [h.withdrawal])
  listen := listen
  limit := hlimit
  zero := zero
  active := fun ha => absurd ha hactive
  faulted := fun hf => absurd hf (hfault _)
  txHeld := fun hh => absurd hh (by simp [h.txHeld])

/-- WITHDRAWN and DUPLICATE with the sender at rest. -/
theorem AtRest.left {t : State} (h : AtRest t) (hst : t.ctl.station = .withdrawn ∨ t.ctl.station = .duplicate)
    (hlimit : t.tx.losses ≤ Config.lossLimit) : SenderAgrees t := by
  rcases hst with hst | hst
  · exact h.agrees (by simp [hst]) (by simp [hst]) hlimit (by simp [hst, Station.unconfigured]) (by simp [hst])
  · exact h.agrees (by simp [hst]) (by simp [hst]) hlimit (by simp [hst, Station.unconfigured]) (by simp [hst])

/-- LISTEN below L, no loss counted, the sender at rest (R88, R112). -/
theorem AtRest.listening {t : State} {count : Nat} (h : AtRest t) (hst : t.ctl.station = .listen count)
    (hlosses : t.tx.losses = 0) (hcount : ∀ cfg, t.ldr.config = some cfg → count < cfg.listen) : SenderAgrees t := by
  refine h.agrees (by simp [hst]) (by simp [hst]) (by simp [hlosses]) (fun _ => hlosses) fun cfg n hc hn => ?_
  cases hst.symm.trans hn
  exact hcount cfg hc

/-- LOADING and CONFIG_FAULT, no loss counted, the sender at rest (R88). -/
theorem AtRest.unconfigured {t : State} (h : AtRest t) (hst : t.ctl.station.unconfigured = true)
    (hlosses : t.tx.losses = 0) : SenderAgrees t := by
  refine h.agrees ?_ ?_ (by simp [hlosses]) (fun _ => hlosses) ?_
  · exact fun hn => by rw [hn] at hst; exact nomatch hst
  · exact fun r hn => by rw [hn] at hst; exact nomatch hst
  · exact fun _ _ _ hn => by rw [hn] at hst; exact nomatch hst

/-! ### The outcome of an attempt (R96–R98, R118, R119) -/

/-- A station in ACTIVE whose attempt ends with fewer losses than the limit, staying there or WITHDRAWN after a LEAVE. -/
theorem Stands.outcome {s : State} (h : Stands s) (hactive : s.ctl.station = .active) {losses : Nat}
    (hl : losses < Config.lossLimit) (f : Counters → Counters) : Stands (s.outcome losses f) where
  loader := h.loader.congr rfl rfl rfl fun _ => id
  round := h.round.congr rfl rfl rfl rfl
  sender :=
    { attempt := fun _ => hactive
      withdrawal := fun _ => hactive
      listen := h.sender.listen
      limit := hl.le
      zero := fun hz => absurd hz (by simp [State.outcome, hactive, Station.unconfigured])
      active := fun _ => hl
      faulted := h.sender.faulted
      txHeld := fun hh => absurd (h.sender.txHeld hh).2 (by simp [hactive]) }

/-- A timing station enters WITHDRAWN or DUPLICATE (R113, R118). -/
theorem Stands.leaves {s : State} (h : Stands s) {st : Station} (hst : st = .withdrawn ∨ st = .duplicate)
    (hs : s.ctl.station.timing = true) (detail : Nat) : Stands (s.enter st detail) := by
  have hfault : ∀ r, s.ctl.station ≠ .lineFault r := fun r hr => by rw [hr] at hs; exact nomatch hs
  have ht : st.timing = true ∧ st.unconfigured = false ∧ st.endsWithdrawal = true ∧ st ≠ .active := by
    rcases hst with rfl | rfl <;> exact ⟨rfl, rfl, rfl, by decide⟩
  obtain ⟨htiming, hunconf, hends, hne⟩ := ht
  refine ⟨h.loader.moves (Station.configured_of_timing hs) (by simpa using hunconf) (by simp) (by simp),
    .timing (by simpa using htiming) (by simpa using h.round.cursor), AtRest.left ?_ (by simpa using hst) ?_⟩
  · exact ⟨by simp [Sender.enter, hne], by simp [Sender.enter, hne], by simp [Controller.enter, hends],
      by simpa using h.sender.txHeld_eq_false hfault⟩
  · simpa [Sender.enter, hne] using h.sender.limit

/-- LINE_FAULT with reason TX, the loss limit reached (R119, R121). -/
theorem Stands.enterTxFault {s : State} (hl : LoaderAgrees s) (hs : s.ctl.station.unconfigured = false)
    (cursor : ∀ cfg n, s.ldr.config = some cfg → s.trk.walk = .opened (.slot n) → n ≤ cfg.high)
    (hlosses : s.tx.losses = Config.lossLimit) : Stands s.enterTxFault where
  loader := hl.moves hs (by simp [Station.unconfigured]) (by simp) (by simp)
  round := .receiving (by simp [Station.receives])
    (fun _ => ⟨by simp [State.enterTxFault, RoundTracker.stopTimer], by simp [State.enterTxFault, RoundTracker.stopTimer],
      by simp [State.enterTxFault]⟩)
    (by simpa [State.enterTxFault, RoundTracker.stopTimer] using cursor)
  sender :=
    { attempt := fun hn => absurd hn (by simp [State.enterTxFault, Sender.enter])
      withdrawal := fun hp => absurd hp (by simp [State.enterTxFault, Controller.enter, Station.endsWithdrawal])
      listen := fun _ _ _ hn => absurd hn (by simp)
      limit := by simp [State.enterTxFault, Sender.enter, hlosses]
      zero := fun hz => absurd hz (by simp [Station.unconfigured])
      active := fun ha => absurd ha (by simp)
      faulted := fun _ => by simp [State.enterTxFault]
      txHeld := fun _ => ⟨by simp [State.enterTxFault, Sender.enter, hlosses], _, State.enterTxFault_station s⟩ }

/-- A lost attempt at the limit (R97, R119). -/
theorem State.attemptLost_of_last {s : State} (h : 4 ≤ s.tx.losses + 1) :
    s.attemptLost = (s.outcome Config.lossLimit Counters.bumpAttemptsLost).enterTxFault := by
  have hmin : min Config.lossLimit (s.tx.losses + 1) = Config.lossLimit := Nat.min_eq_left h
  rw [State.attemptLost, hmin]
  exact if_pos rfl

/-- A lost attempt in ACTIVE: below the limit the outcome of its kind, at the limit LINE_FAULT with reason TX (R97, R98, R119). -/
theorem Stands.attemptLost {s : State} (h : Stands s) (hactive : s.ctl.station = .active) : Stands s.attemptLost := by
  have hlt : s.tx.losses < 4 := h.sender.active hactive
  rcases Nat.lt_or_ge (s.tx.losses + 1) 4 with hmore | hlast
  · rw [State.attemptLost_of_lt hmore]
    have hout := h.outcome hactive hmore Counters.bumpAttemptsLost
    split
    · exact hout.leaves (.inl rfl) (by simp [State.outcome, hactive, Station.timing]) _
    · exact hout
  · rw [State.attemptLost_of_last hlast]
    exact .enterTxFault (h.loader.congr rfl rfl rfl fun _ => id)
      (by simp [State.outcome, hactive, Station.unconfigured]) h.round.cursor rfl

theorem Stands.attemptWasSent {s : State} (h : Stands s) (hactive : s.ctl.station = .active) :
    Stands s.attemptWasSent := by
  rw [State.attemptWasSent_eq]
  have hout := h.outcome hactive (losses := 0) (by decide) Counters.bumpFramesSent
  split
  · exact hout.leaves (.inl rfl) (by simp [State.outcome, hactive, Station.timing]) _
  · exact hout

theorem Stands.active_of_takenOver {s : State} (h : Stands s) (ha : s.tx.attempt = .takenOver) : s.ctl.station = .active :=
  h.sender.attempt (.inl (by simp [ha]))

theorem Stands.loseUnderMark {s : State} (h : Stands s) : Stands s.loseUnderMark := by
  unfold State.loseUnderMark
  split
  · exact h.attemptLost (h.active_of_takenOver ‹_›)
  · exact h

theorem Stands.settleTakenOver {s : State} (h : Stands s) (own : Bool) : Stands (s.settleTakenOver own) := by
  unfold State.settleTakenOver
  split
  · rename_i ha
    have hactive := h.active_of_takenOver ha
    split
    · exact h.outcome hactive (h.sender.active hactive) id
    · exact h.attemptLost hactive
  · exact h

/-! ### Frames -/

theorem Stands.noteSighting {s : State} (h : Stands s) : Stands s.noteSighting := by
  rcases s.noteSighting_cases with ⟨hst, he⟩ | ⟨-, -, -, he⟩ <;> rw [he]
  · refine h.leaves (.inr rfl) ?_ _
    rcases hst with ⟨_, hst⟩ | hst | hst <;> rw [hst] <;> rfl
  · exact h

theorem Stands.handOn {cfg : Configuration} {s : State} (h : Stands s) (hc : s.ldr.config = some cfg) (kind : FrameKind)
    (hdr : Header) (points : List Byte) : Stands (s.handOn cfg kind hdr points) := by
  by_cases hn : hdr.station = cfg.own
  · rw [State.handOn_own hn]
    exact Stands.noteSighting (h.congr {})
  · have hnone : s.ldr.config ≠ none := by simp [hc]
    cases kind with
    | data =>
      rw [State.handOn_data hn]
      exact h.congr { trans := fun hn => absurd hn hnone }
    | leave =>
      rw [State.handOn_leave hn]
      exact h.congr { trans := fun hn => absurd hn hnone }

/-- A forward slip leaves the tracker, or raises the cursor of an open walk (R54, R61). -/
theorem RoundTracker.slipTo_cases (t : RoundTracker) (n : StationNo) :
    t.slipTo n = t ∨ ∃ cursor, t.walk = .opened cursor ∧ cursor.below n = true ∧
      t.slipTo n = { t with walk := .opened (.slot n) } := by
  unfold RoundTracker.slipTo
  cases hw : t.walk with
  | idle => exact .inl rfl
  | closed => exact .inl rfl
  | opened cursor =>
    cases hb : cursor.below n with
    | false => exact .inl (by simp [hb])
    | true => exact .inr ⟨cursor, rfl, hb, by simp [hb]⟩

@[simp] theorem State.slip_trk (cfg : Configuration) (cursor : Cursor) (n : StationNo) (s : State) :
    (s.slip cfg cursor n).trk = s.trk.slipTo n := by
  simp only [State.slip]
  split
  · exact State.passedUnopened_trk cfg _
  · rfl

/-- An open walk that moves to a slot up to H stays in agreement (R54, R61). -/
theorem Stands.walks {s t : State} {cfg : Configuration} (h : Stands s) (hc : s.ldr.config = some cfg) {cursor : Cursor}
    (hopen : s.trk.walk = .opened cursor) {n : StationNo} (hn : n ≤ cfg.high)
    (ht : SameStanding { s with trk := { s.trk with walk := .opened (.slot n) } } t) : Stands t := by
  refine Stands.congr (s := { s with trk := { s.trk with walk := .opened (.slot n) } }) ⟨h.loader.congr rfl rfl rfl fun _ => id, ⟨fun hr => ?_, h.round.timer, fun cfg' m hc' hw => ?_⟩,
    h.sender.congr rfl rfl rfl rfl rfl⟩ ht
  · exact absurd (hopen.symm.trans (h.round.walk hr).1) (by simp)
  · cases hc.symm.trans hc'
    cases hw
    exact hn

theorem Stands.slip {cfg : Configuration} {s : State} (h : Stands s) (hc : s.ldr.config = some cfg) {n : StationNo}
    (hn : n ≤ cfg.high) (cursor : Cursor) : Stands (s.slip cfg cursor n) := by
  rcases s.trk.slipTo_cases n with he | ⟨c, hopen, -, he⟩
  · exact h.congr { trk := by rw [State.slip_trk, he] }
  · exact h.walks hc hopen hn
      { trk := by rw [State.slip_trk, he] }

theorem Stands.countAndSort {cfg : Configuration} {s : State} (h : Stands s) (hc : s.ldr.config = some cfg) (start : Walk)
    (v : Verdict) : Stands (s.countAndSort cfg start v) := by
  unfold State.countAndSort
  split
  · cases v with
    | check => exact h.congr {}
    | header => exact h.congr {}
    | valid kind hdr points =>
      have hgood : Stands (s.count Counters.bumpGood) := h.congr {}
      cases start with
      | idle => exact hgood
      | closed =>
        have hcount : Stands ((s.count Counters.bumpGood).count Counters.bumpAfterClose) := hgood.congr {}
        exact hcount
      | opened cursor =>
        simp only [State.sortFrame]
        split
        · exact hgood.congr {}
        rename_i hle
        split
        · exact hgood.handOn hc kind hdr points
        split
        · have hslip := hgood.slip hc (not_lt.mp hle) cursor
          exact hslip.handOn ((congrArg Loader.config (State.slip_ldr ..)).trans hc) kind hdr points
        · have hcount : Stands ((s.count Counters.bumpGood).count Counters.bumpOutOfSlot) := hgood.congr {}
          exact hcount.handOn hc kind hdr points
  · exact h

theorem Stands.foreignFrame {cfg : Configuration} {s : State} (h : Stands s) (hc : s.ldr.config = some cfg) (start : Walk)
    (body : List Byte) (lossFirst : Bool) : Stands (s.foreignFrame cfg start body lossFirst) := by
  simp only [State.foreignFrame]
  split
  · exact (h.settleTakenOver _).countAndSort (by simpa using hc) _ _
  · exact (h.countAndSort hc _ _).settleTakenOver _

/-! ### The round (R53–R56, R89, R111) -/

theorem Stands.controlAtClose {cfg : Configuration} {s : State} (h : Stands s) (hc : s.ldr.config = some cfg) :
    Stands (s.controlAtClose cfg) := by
  have hconf := h.loader.configured_iff.mpr ⟨cfg, hc⟩
  unfold State.controlAtClose
  split
  · rename_i count hst
    have hrest : AtRest s := by
      obtain ⟨hattempt, hkind, hpending⟩ := h.sender.idle (by simp [hst])
      exact ⟨hattempt, hkind, hpending, h.sender.txHeld_eq_false (by simp [hst])⟩
    have hlosses := h.sender.zero (.inr ⟨count, hst⟩)
    split
    · split
      · refine ⟨h.loader.moves hconf rfl rfl rfl, .timing rfl h.round.cursor, ?_⟩
        exact
          { attempt := fun _ => rfl
            withdrawal := fun _ => rfl
            listen := fun _ _ _ hn => nomatch hn
            limit := h.sender.limit
            zero := fun hz => absurd hz (by simp [Station.unconfigured])
            active := fun _ => by rw [State.moveTo_tx, Sender.enter, if_pos rfl, hlosses]; decide
            faulted := fun hf => nomatch hf
            txHeld := fun hh => absurd hh (by simp [hrest.txHeld]) }
      · rename_i hmore
        refine ⟨h.loader.moves hconf rfl rfl rfl, .timing rfl h.round.cursor, AtRest.listening ?_ rfl hlosses fun cfg' hc' => ?_⟩
        · exact ⟨hrest.attempt, hrest.kind, hrest.withdrawal, hrest.txHeld⟩
        · cases hc.symm.trans hc'
          exact not_le.mp hmore
    · exact h
  · rename_i hst
    obtain ⟨-, -, hpending⟩ := h.sender.idle (by simp [hst])
    split
    · refine ⟨h.loader.moves hconf rfl rfl rfl, .timing rfl h.round.cursor, AtRest.listening ?_ rfl rfl fun cfg' hc' => ?_⟩
      · exact { withdrawal := hpending, txHeld := h.sender.txHeld_eq_false (by simp [hst]) }
      · exact Nat.lt_of_lt_of_le (by decide) (h.loader.accepted cfg' hc').2.2.2.2.2.2.1
    · exact h
  all_goals exact h

theorem Stands.closeWork {cfg : Configuration} {s : State} (h : Stands s) (hc : s.ldr.config = some cfg)
    (cut : Option Cursor) : Stands (s.closeWork cfg cut) := by
  have hevaluated : Stands (s.evaluatedAtClose cfg cut) :=
    h.congr {}
  exact (hevaluated.controlAtClose (by simpa using hc)).congr { trans := by simp [hc] }

/-- A walk that was open and closes (R55, R56). -/
theorem Stands.closeWalk {s : State} (h : Stands s) {cursor : Cursor} (hopen : s.trk.walk = .opened cursor)
    (f : Counters → Counters) : Stands (State.count f { s with trk := s.trk.closeWalk }) := by
  refine ⟨h.loader.congr rfl rfl rfl fun _ => id, ⟨fun hr => ?_, h.round.timer, nofun⟩, h.sender.congr rfl rfl rfl rfl rfl⟩
  exact absurd (hopen.symm.trans (h.round.walk hr).1) (by simp)

theorem Stands.cutIfOpen {cfg : Configuration} {s : State} (h : Stands s) (hc : s.ldr.config = some cfg) :
    Stands (s.cutIfOpen cfg) := by
  unfold State.cutIfOpen
  split
  · rename_i cursor hopen
    have hpassed : Stands (s.passedUnopened cfg) :=
      h.congr {}
    rw [State.closeCut]
    split
    · exact (hpassed.closeWalk (by simpa using hopen) _).closeWork (by simpa using hc) _
    · exact (h.closeWalk hopen _).closeWork hc _
  all_goals exact h

theorem Stands.openOwnSlot {cfg : Configuration} {s : State} (h : Stands s) : Stands (s.openOwnSlot cfg) := by
  unfold State.openOwnSlot
  split
  · rename_i hslot
    obtain ⟨hactive, -⟩ := hslot
    have hsender : ∀ t : State, t.ctl.station = s.ctl.station → t.ctl.txHeld = s.ctl.txHeld → t.ldr.config = s.ldr.config →
        t.tx.losses = s.tx.losses → SenderAgrees t := fun t hst hheld hconf hlosses =>
      { attempt := fun _ => hst.trans hactive
        withdrawal := fun _ => hst.trans hactive
        listen := by rw [hst, hconf]; exact h.sender.listen
        limit := hlosses ▸ h.sender.limit
        zero := by rw [hst, hlosses]; exact h.sender.zero
        active := by rw [hst, hlosses]; exact h.sender.active
        faulted := by rw [hst, hheld]; exact h.sender.faulted
        txHeld := by rw [hst, hheld, hlosses]; exact h.sender.txHeld }
    split
    · exact ⟨h.loader.congr rfl rfl rfl fun _ => id, h.round.congr rfl rfl rfl rfl, hsender _ rfl rfl rfl rfl⟩
    split
    · exact ⟨h.loader.congr rfl rfl rfl fun _ => id, h.round.congr rfl rfl rfl rfl, hsender _ rfl rfl rfl rfl⟩
    · exact h
  · exact h

/-- A boundary in an open walk advances the cursor up to H, or closes the walk after it (R54, R55). -/
theorem Stands.boundary {cfg : Configuration} {s : State} (h : Stands s) (hc : s.ldr.config = some cfg) {cursor : Cursor}
    (hopen : s.trk.walk = .opened cursor) : Stands (s.boundary cfg cursor) := by
  simp only [State.boundary]
  split
  · exact (h.closeWalk hopen _).closeWork hc _
  · rename_i hle
    have hwalk : Stands { s with trk := { s.trk with walk := .opened (.slot (Fin.ofNat 32 cursor.nextNumber)) } } := by
      refine h.walks hc hopen (n := Fin.ofNat 32 cursor.nextNumber) ?_ {}
      rw [Fin.le_def, Fin.val_ofNat]
      exact (Nat.mod_le _ _).trans (not_lt.mp hle)
    split
    · exact hwalk.openOwnSlot
    · exact hwalk

/-- A mark restarts the timer where it runs (R49). -/
theorem Stands.restartTimer {s : State} (h : Stands s) (hr : s.ctl.station.receives = true) (rx : Receiver) :
    Stands (State.restartTimer { s with rx := rx }) := by
  refine ⟨h.loader.congr rfl rfl rfl fun _ => id, .receiving hr (fun ht => ?_) h.round.cursor, h.sender.congr rfl rfl rfl rfl rfl⟩
  obtain ⟨htimer, -, hmark⟩ := h.round.timer ht
  exact ⟨(if_neg (by rw [State.restartTimer_ctl] at ht; simp [ht])).trans htimer, rfl, hmark⟩

/-! ### The line faults (R48, R119–R121) -/

theorem Stands.enterStuck {s : State} (h : Stands s) (hr : s.ctl.station.receives = true) : Stands s.enterStuck where
  loader := h.loader.moves (Station.configured_of_receives hr) (by simp [State.enterStuck, Station.unconfigured])
    (by simp) (by simp)
  round :=
    { walk := fun _ => by simp [State.enterStuck]
      timer := fun _ => by simp [State.enterStuck, RoundTracker.stopTimer]
      cursor := fun _ _ _ hw => by simp [State.enterStuck] at hw }
  sender :=
    { attempt := fun hn => absurd hn (by simp [State.enterStuck, Sender.enter])
      withdrawal := fun hp => absurd hp (by simp [State.enterStuck, Controller.enter, Station.endsWithdrawal])
      listen := fun _ _ _ hn => absurd hn (by simp [State.enterStuck])
      limit := by simpa [State.enterStuck, Sender.enter] using h.sender.limit
      zero := fun hz => absurd hz (by simp [State.enterStuck, Station.unconfigured])
      active := fun ha => absurd ha (by simp [State.enterStuck])
      faulted := fun hf => absurd hf (by simp [State.enterStuck])
      txHeld := fun hh => by
        have hheld := h.sender.txHeld (by simpa [State.enterStuck] using hh)
        exact ⟨by simpa [State.enterStuck, Sender.enter] using hheld.1, .stuck, by simp [State.enterStuck]⟩ }

/-- LISTEN with count 0, from any state with no withdrawal pending and no transmit fault held (R88, R112). -/
theorem Stands.enterListen {s : State} (detail : Nat) (hl : LoaderAgrees (s.enterListen detail))
    (cursor : ∀ cfg n, s.ldr.config = some cfg → s.trk.walk = .opened (.slot n) → n ≤ cfg.high)
    (hpending : s.ctl.withdrawalPending = false) (hheld : s.ctl.txHeld = false) : Stands (s.enterListen detail) where
  loader := hl
  round := .timing (by simp [Station.timing]) (by simpa using cursor)
  sender := by
    refine AtRest.listening (count := 0) ⟨?_, ?_, ?_, ?_⟩ (by simp) (by simp) fun cfg hc => ?_
    · simp [State.enterListen, Sender.enter]
    · simp [State.enterListen, Sender.enter]
    · simpa [Controller.enter, Station.endsWithdrawal] using hpending
    · simpa using hheld
    · exact Nat.lt_of_lt_of_le (by decide) (hl.accepted cfg hc).2.2.2.2.2.2.1

/-! ### Resets and loads (R106–R110, R142–R147, R153) -/

/-- An entry to LOADING, or the reset condition (R63, R88, R104, R142, R144). -/
theorem Stands.loading {t : State} (station : t.ctl.station = .loading) (hrest : AtRest t) (losses : t.tx.losses = 0)
    (config : t.ldr.config = none) (pins : t.ldr.phase ≠ .reading → t.ldr.command = [] ∧ t.ldr.selectLow = false)
    (power : t.power ≠ .running → t.ldr.phase = .idle ∧ t.tap.trans = .idle) (trk : t.trk = RoundTracker.reset)
    (mark : t.line.mark = none) : Stands t where
  loader :=
    { held := by rw [config, station]; rfl
      loading := fun _ => station
      pins := pins
      power := fun hp => ⟨station, power hp⟩
      accepted := fun _ hc => nomatch config.symm.trans hc }
  round :=
    { walk := fun _ => by rw [trk]; exact ⟨rfl, rfl⟩
      timer := fun _ => by rw [trk]; exact ⟨rfl, rfl, mark⟩
      cursor := fun _ _ hc => nomatch config.symm.trans hc }
  sender := hrest.unconfigured (by rw [station]; rfl) losses

theorem Loader.begin_pins (again : Bool) (strap : Strap) (h : (Loader.begin again strap).phase ≠ .reading) :
    (Loader.begin again strap).command = [] ∧ (Loader.begin again strap).selectLow = false := by
  cases strap with
  | memory => exact absurd rfl h
  | tap => exact ⟨rfl, rfl⟩

theorem Stands.boot (strap : Strap) (detail : Nat) (s : State) : Stands (s.boot strap detail) := by
  rw [State.boot_eq]
  exact .loading rfl {} rfl (Loader.begin_config _ _) (Loader.begin_pins _ _) (fun hp => absurd rfl hp) rfl rfl

theorem Stands.restartEffect (s : State) : Stands s.restartEffect := by
  rw [State.restartEffect, State.postLoading_eq _ (by simp) rfl]
  exact .loading rfl {} rfl (Loader.begin_config _ _) (Loader.begin_pins _ _) (fun hp => absurd rfl hp) rfl rfl

theorem Stands.loadEntry (image : List Byte) (s : State) : Stands (s.loadEntry image) := by
  rw [State.loadEntry, State.postLoading_eq _ rfl rfl]
  exact .loading rfl {} rfl rfl (fun _ => ⟨rfl, rfl⟩) (fun hp => absurd rfl hp) rfl rfl

/-- While the loader works, every other block stands as LOADING leaves it. -/
theorem Stands.busy {s : State} (h : Stands s) (hp : s.ldr.phase ≠ .idle) :
    s.ctl.station = .loading ∧ s.power = .running ∧ AtRest s ∧ s.tx.losses = 0 := by
  have hst := h.loader.loading hp
  obtain ⟨hattempt, hkind, hpending⟩ := h.sender.idle (by simp [hst])
  exact ⟨hst, by_contra fun hn => hp (h.loader.power hn).2.1,
    ⟨hattempt, hkind, hpending, h.sender.txHeld_eq_false (by simp [hst])⟩, h.sender.zero (.inl (by rw [hst]; rfl))⟩

/-- The loader moves on within LOADING, whose source drives the pins only while it reads (R142, R144). -/
theorem Stands.loads {s : State} (h : Stands s) (hp : s.ldr.phase ≠ .idle) {ldr : Loader} (config : ldr.config = s.ldr.config)
    (pins : ldr.phase ≠ .reading → ldr.command = [] ∧ ldr.selectLow = false) {t : State} (ht : SameStanding { s with ldr := ldr } t) :
    Stands t := by
  obtain ⟨hst, hpower, -, -⟩ := h.busy hp
  refine Stands.congr (s := { s with ldr := ldr }) ⟨⟨?_, fun _ => hst, pins, fun hn => absurd hpower hn, ?_⟩,
    h.round.congr rfl config rfl rfl, h.sender.congr rfl config rfl rfl rfl⟩ ht
  · exact (congrArg Option.isSome config).trans h.loader.held
  · exact fun cfg hc => h.loader.accepted cfg (config.symm.trans hc)

theorem Stands.configGood {s : State} (h : Stands s) (hp : s.ldr.phase = .checking) (hpass : firstFailure s.ldr.buffer = none)
    (raw : BitVec 16) : Stands (s.configGood raw) := by
  obtain ⟨hst, hpower, hrest, -⟩ := h.busy (by simp [hp])
  have hwalk := (h.round.walk (by rw [hst]; rfl)).1
  refine .enterListen _ ?_ ?_ hrest.withdrawal hrest.txHeld
  · constructor
    · simp [Station.unconfigured]
    · simp
    · simp
    · simp [hpower]
    · intro cfg hc
      obtain rfl : configurationOf s.ldr.buffer = cfg := by simpa using hc
      exact configurationOf_inRange ((firstFailure_eq_none_iff _).mp hpass)
  · intro _ _ _ hw
    exact absurd (hwalk.symm.trans hw) (by simp)

theorem Stands.configBad {s : State} (h : Stands s) (hp : s.ldr.phase = .checking) (reason : CheckReason) :
    Stands (s.configBad reason) := by
  obtain ⟨hst, hpower, hrest, hlosses⟩ := h.busy (by simp [hp])
  obtain ⟨hwalk, hmark⟩ := h.round.walk (by rw [hst]; rfl)
  obtain ⟨htimer, hdue, hline⟩ := h.round.timer (by rw [hst]; rfl)
  refine ⟨⟨?_, ?_, ?_, ?_, ?_⟩, ⟨?_, ?_, ?_⟩, AtRest.unconfigured ⟨?_, ?_, ?_, ?_⟩ ?_ ?_⟩
  · simp [State.configBad, Loader.reset, Station.unconfigured]
  · simp [State.configBad, Loader.reset]
  · simp [State.configBad, Loader.reset]
  · simp [State.configBad, hpower]
  · simp [State.configBad, Loader.reset]
  · simp [hwalk, hmark]
  · simp [htimer, hdue, hline]
  · simp [hwalk]
  · simp [State.configBad, Sender.enter]
  · simp [State.configBad, Sender.enter]
  · simp [State.configBad, Controller.enter, Station.endsWithdrawal, hrest.withdrawal]
  · simp [State.configBad, hrest.txHeld]
  · simp [State.configBad, Station.unconfigured]
  · simp [State.configBad, Sender.enter, hlosses]

/-! ### The tap (R109, R110, R115, R116, R146, R156) -/

theorem Stands.endTransaction {s : State} (h : Stands s) : Stands s.endTransaction :=
  h.congr { trans := fun _ _ => State.endTransaction_trans s }

theorem Stands.transact {s : State} (h : Stands s) (hopen : s.tap.trans ≠ .idle) (o : Opened) (clocks : Nat) :
    Stands (s.transact o clocks) :=
  h.congr { trans := fun _ hidle => absurd hidle hopen }

/-- A tap command keeps the laws if its effect does (R156). -/
theorem Stands.tapCommand {s : State} (h : Stands s) {code : Nat} {args : List Byte} {part : TapPart}
    {response : State → List Byte} {take : State → Nat} {effect : Latch → State → State}
    (he : ∀ l u, Stands u → Stands (effect l u)) : Stands (s.tapCommand code args part response take effect) := by
  rcases s.tapCommand_cases code args part response take effect with
    e | e | ⟨o, clocks, hopen, e⟩ | ⟨l, o, clocks, hopen, e⟩ <;> rw [e]
  · exact h
  · exact h.congr {}
  · exact h.transact hopen o clocks
  · exact (he l _ (h.transact hopen o clocks)).endTransaction

theorem Stands.arrive {s : State} (h : Stands s) (bits : List Level) (latch : Option Latch) (clocks : Nat) :
    Stands (s.arrive bits latch clocks) := by
  rcases s.arrive_cases bits latch clocks with e | ⟨hopen, o, e⟩ <;> rw [e]
  · exact h
  · exact h.transact hopen o _

theorem Stands.riseMalformed {s : State} (h : Stands s) (bits : List Level) : Stands (s.riseMalformed bits) := by
  rcases s.riseMalformed_cases bits with e | e | ⟨-, e⟩ <;> rw [e]
  · exact h
  · exact h.congr {}
  · exact Stands.endTransaction (h.congr {})

theorem Stands.readEffect {s : State} (h : Stands s) (accepted : Bool) (l : Latch) : Stands (readEffect accepted l s) :=
  h.congr { trans := fun _ => id }

theorem Stands.takeEffect {s : State} (h : Stands s) (accepted : Bool) (l : Latch) : Stands (takeEffect accepted l s) := by
  unfold Machine.takeEffect
  split <;> exact h.congr {}

/-- In ACTIVE a withdrawal may be pending or not (R115–R117). -/
theorem Stands.setWithdrawal {s : State} (h : Stands s) (hactive : s.ctl.station = .active) (pending : Bool) :
    Stands { s with ctl := { s.ctl with withdrawalPending := pending } } :=
  ⟨h.loader.congr rfl rfl rfl fun _ => id, h.round.congr rfl rfl rfl rfl,
    { h.sender with withdrawal := fun _ => hactive }⟩

theorem Stands.withdrawEffect {s : State} (h : Stands s) : Stands s.withdrawEffect := by
  rcases s.withdrawEffect_cases with ⟨hactive, -, e⟩ | e <;> rw [e]
  · exact (h.setWithdrawal hactive true).congr {}
  · exact h.congr {}

theorem Stands.rejoinEffect {s : State} (h : Stands s) : Stands s.rejoinEffect := by
  rcases s.rejoinEffect_cases with ⟨hactive, -, e⟩ | ⟨hst, e⟩ | e <;> rw [e]
  · exact (h.setWithdrawal hactive false).congr {}
  · obtain ⟨-, -, hpending⟩ := h.sender.idle (by simp [hst])
    refine Stands.congr (s := s.enterListen detailRejoined) (.enterListen _ ?_ h.round.cursor hpending ?_) {}
    · exact h.loader.moves (by rw [hst]; rfl) (by simp [Station.unconfigured]) (by simp) (by simp)
    · exact h.sender.txHeld_eq_false (by simp [hst])
  · exact h.congr {}

theorem Stands.loadEffect {s : State} (h : Stands s) (image : List Byte) : Stands (s.loadEffect image) := by
  rcases s.loadEffect_cases image with ⟨-, hp, e⟩ | ⟨-, -, e⟩ | ⟨-, e⟩ <;> rw [e]
  · exact h.loads (by simp [hp]) (ldr := { s.ldr with phase := .checking, buffer := image }) rfl
      (fun _ => h.loader.pins (by simp [hp])) {}
  · exact h.congr {}
  · exact .loadEntry image s

theorem Stands.repackEffect {s : State} (h : Stands s) : Stands s.repackEffect := by
  rcases s.repackEffect_cases with ⟨-, e⟩ | ⟨-, e⟩ <;> rw [e] <;> exact h.congr {}

/-! ### Time (log 2) -/

theorem State.drive_of_mark {s : State} {k : Nat} (e : LineBit) (h : s.line.mark = some k) : s.drive e = s.driveMark k e := by
  rw [State.drive, h]

theorem State.drive_of_startDue {s : State} (e : LineBit) (h : s.line.mark = none) (hdue : s.tx.startDue = true) :
    s.drive e = s.driveStart e := by
  rw [State.drive, h]
  exact if_pos hdue

theorem State.drive_of_driving {s : State} (e : LineBit) (h : s.line.mark = none) (hdrive : s.tx.attempt = .driving) :
    s.drive e = s.driveFrame e := by
  have hdue : s.tx.startDue = false := by simp [Sender.startDue, hdrive]
  rw [State.drive, h]
  simp [hdue, hdrive]

/-- Where nothing is driven the level is the others' (R45). -/
theorem State.drive_of_quiet {s : State} (e : LineBit) (h : s.line.mark = none) (hdue : s.tx.startDue = false)
    (hdrive : s.tx.attempt ≠ .driving) :
    s.drive e = { level := e.others, mark := none, driven := s.tx.driven, happenings := [], receiverDone := false } := by
  rw [State.drive, h]
  simp [hdue, hdrive]

theorem State.driveStart_mark (e : LineBit) (s : State) : (s.driveStart e).mark = none := by
  unfold State.driveStart
  split <;> rfl

theorem State.driveFrame_mark (e : LineBit) (s : State) : (s.driveFrame e).mark = none := by
  simp only [State.driveFrame]
  repeat' split
  all_goals rfl

/-- No mark begins in a bit time (R50). -/
theorem State.drive_mark (e : LineBit) {s : State} (h : s.line.mark = none) : (s.drive e).mark = none := by
  by_cases hdue : s.tx.startDue = true
  · rw [State.drive_of_startDue e h hdue, State.driveStart_mark]
  by_cases hdrive : s.tx.attempt = .driving
  · rw [State.drive_of_driving e h hdrive, State.driveFrame_mark]
  · rw [State.drive_of_quiet e h (Bool.eq_false_iff.mpr hdue) hdrive]

/-- A bit time moves a timer that runs, and lengthens a mark that is driven (R49, R50). -/
theorem Stands.bitTime {s : State} (h : Stands s) (cfg : Configuration) : Stands (s.bitTime cfg) := by
  refine ⟨h.loader.congr (by simp) (by simp) (by simp) (by simp), ⟨?_, fun ht => ?_, ?_⟩,
    h.sender.congr (by simp) (by simp) (by simp [State.bitTime]) (by simp [State.bitTime]) (by simp [State.bitTime])⟩
  · simpa [State.bitTime] using h.round.walk
  · obtain ⟨htimer, hdue, hmark⟩ := h.round.timer (by simpa using ht)
    refine ⟨?_, by simpa [State.bitTime] using hdue, by simpa [State.bitTime] using State.drive_mark _ hmark⟩
    simp [State.bitTime, htimer, RoundTimer.advance]
  · simpa [State.bitTime] using h.round.cursor

/-- A byte time of READING moves the loader alone (R144). -/
theorem Stands.readByte {s : State} (h : Stands s) (hp : s.ldr.phase = .reading) : Stands s.readByte := by
  refine h.loads (ldr := s.readByte.ldr) (by simp [hp]) (by simp) (fun hn => absurd (s.readByte_phase.trans hp) hn)
    {}

theorem Stands.clock {s : State} (h : Stands s) : Stands s.clock := by
  have hcontacts : Stands s.presentContacts := h.congr {}
  unfold State.clock
  split
  · exact h
  split
  · split
    · exact hcontacts.bitTime _
    · exact h.congr {}
  · split
    · exact hcontacts.readByte ‹_›
    · exact hcontacts.congr {}
    · exact h
    · exact h

/-! ### The commands -/

theorem Stands.acceptInputs {s : State} (h : Stands s) (cfg : Configuration) (inputs : Vector InputState 16) :
    Stands (s.acceptInputs cfg inputs) :=
  h.congr { trans := by simp [State.acceptInputs] }

theorem Stands.foreignFrom {s : State} (h : Stands s) (bit : Nat) : Stands (s.foreignFrom bit) :=
  h.congr {}

theorem Stands.releaseMark {s : State} (h : Stands s) : Stands s.releaseMark := by
  refine ⟨h.loader.congr rfl rfl rfl fun _ => id, ⟨h.round.walk, fun ht => ?_, h.round.cursor⟩, h.sender.congr rfl rfl rfl rfl rfl⟩
  obtain ⟨htimer, hdue, -⟩ := h.round.timer ht
  exact ⟨htimer, hdue, rfl⟩

theorem Stands.active_of_reaches {s : State} (h : Stands s) {bit : Nat} (hreach : s.tx.reaches bit = true) :
    s.ctl.station = .active := by
  simp only [Sender.reaches, Bool.and_eq_true, decide_eq_true_eq] at hreach
  exact h.sender.attempt (.inl (by simp [hreach.1]))

/-- In ACTIVE the attempt may stand at any place (R88). -/
theorem Stands.setAttempt {s : State} (h : Stands s) (hactive : s.ctl.station = .active) {t : State}
    (ht : SameStanding { s with tx := t.tx } t) (hlosses : t.tx.losses = s.tx.losses) : Stands t := by
  refine Stands.congr (s := { s with tx := t.tx }) ⟨h.loader.congr rfl rfl rfl fun _ => id, h.round.congr rfl rfl rfl rfl, ?_⟩ ht
  exact
    { h.sender with
      attempt := fun _ => hactive
      limit := hlosses ▸ h.sender.limit
      zero := hlosses ▸ h.sender.zero
      active := hlosses ▸ h.sender.active
      txHeld := hlosses ▸ h.sender.txHeld }

/-- Every command keeps the station laws. -/
theorem exec_stands {c : Instr} {s t : State} (h : Stands s) (hexec : exec c s = .next t) : Stands t := by
  cases c with
  | powerOn strap => cases hexec; exact .boot strap _ s
  | resetNLow =>
    cases hexec
    exact .loading rfl {} rfl rfl (fun _ => ⟨rfl, rfl⟩) (fun _ => ⟨rfl, rfl⟩) rfl rfl
  | resetNRising strap =>
    simp only [exec, execResetNRising] at hexec
    split at hexec <;> cases hexec
    · exact .boot strap _ s
    · exact .boot strap _ s
    · exact h
  | readingComplete bytes =>
    simp only [exec, execReadingComplete] at hexec
    split at hexec <;> cases hexec
    · rename_i hr
      exact h.loads (ldr := s.ldr.readWhole bytes) (by simp [hr.1]) rfl (fun _ => ⟨rfl, rfl⟩) {}
    · exact h
  | checkingComplete raw =>
    simp only [exec, execCheckingComplete] at hexec
    split at hexec
    · rename_i hp
      split at hexec <;> cases hexec
      · exact h.configGood hp ‹_› raw
      · exact h.configBad hp _
    all_goals cases hexec; exact h
  | roundTimerExpiry =>
    simp only [exec, execRoundTimerExpiry] at hexec
    split at hexec
    · rename_i b hb
      have hexpired : Stands { s with trk := { s.trk with timer := .expired, markDue := true } } := by
        refine ⟨h.loader.congr rfl rfl rfl fun _ => id, ⟨h.round.walk, fun ht => ?_, h.round.cursor⟩,
          h.sender.congr rfl rfl rfl rfl rfl⟩
        exact absurd (hb.symm.trans (h.round.timer ht).1) (by simp)
      split at hexec <;> cases hexec
      · exact hexpired.congr {}
      · exact hexpired
      · exact hexpired
    all_goals cases hexec; exact h
  | markBegin =>
    simp only [exec, execMarkBegin] at hexec
    split at hexec <;> cases hexec
    · rename_i hmay
      have htiming : s.ctl.station.timing = true := by
        simp only [State.mayMark, Bool.and_eq_true] at hmay
        exact hmay.1.1.2
      exact ⟨h.loader.congr rfl rfl rfl fun _ => id, .timing htiming h.round.cursor, h.sender.congr rfl rfl rfl rfl rfl⟩
    · exact h
  | markFailed => cases hexec; exact h.releaseMark
  | markRelease => cases hexec; exact h.releaseMark
  | markRecognised lossFirst =>
    simp only [exec, execMarkRecognised] at hexec
    split at hexec
    · cases hexec; exact h
    rename_i cfg hc
    split at hexec
    · rename_i hr
      have hmarked := h.restartTimer hr (Receiver.idleAfter dominant)
      split at hexec <;> cases hexec
      · exact hmarked.loseUnderMark.cutIfOpen (by simpa using hc)
      · exact (hmarked.cutIfOpen hc).loseUnderMark
    · cases hexec; exact h
  | markEnd =>
    simp only [exec, execMarkEnd] at hexec
    split at hexec <;> cases hexec
    · rename_i hmark
      refine ⟨h.loader.congr rfl rfl rfl fun _ => id, ⟨fun hr => ?_, h.round.timer, nofun⟩, h.sender.congr rfl rfl rfl rfl rfl⟩
      exact absurd (hmark.1.symm.trans (h.round.walk hr).2) (by decide)
    · exact h
  | slotBoundary =>
    simp only [exec, execSlotBoundary] at hexec
    have hsaw : Stands s.sawRecessive :=
      h.congr {}
    split at hexec <;> cases hexec
    · rename_i hc hopen
      exact hsaw.boundary (by simpa using hc) (by simpa using hopen)
    · exact hsaw
    · exact hsaw
    · exact h
  | startBit taken =>
    simp only [exec, execStartBit] at hexec
    split at hexec
    · rename_i hdue
      split at hexec <;> cases hexec
      · exact h.setAttempt hdue.1 {} rfl
      · exact h.setAttempt hdue.1 {} rfl
    · cases hexec; exact h
  | collision bit =>
    simp only [exec, execCollision] at hexec
    split at hexec <;> cases hexec
    · rename_i hbit
      exact (h.foreignFrom bit).setAttempt (by simpa using h.active_of_reaches hbit.1) {} rfl
    · exact h
  | transceiverFault bit =>
    simp only [exec, execTransceiverFault] at hexec
    split at hexec <;> cases hexec
    · rename_i hbit
      exact (h.foreignFrom bit).attemptLost (by simpa using h.active_of_reaches hbit.1)
    · exact h
  | attemptSent =>
    simp only [exec, execAttemptSent] at hexec
    split at hexec <;> cases hexec
    · rename_i hdrive
      exact Stands.attemptWasSent (h.congr {}) (h.sender.attempt (.inl (by simp [hdrive])))
    · exact h
  | frameReceived levels first =>
    simp only [exec, execFrameReceived] at hexec
    split at hexec
    · cases hexec; exact h
    rename_i hc
    split at hexec
    · split at hexec
      · have hheard : Stands { s with rx := Receiver.idleAfter dominant } := h.congr {}
        split at hexec <;> cases hexec
        · exact hheard
        · exact hheard.foreignFrame hc _ _ _
      all_goals cases hexec; exact h
    · cases hexec; exact h
  | badFrame levels =>
    simp only [exec, execBadFrame] at hexec
    split at hexec
    · cases hexec; exact h
    split at hexec
    · split at hexec
      · cases hexec
        refine Stands.settleTakenOver ?_ false
        split <;> exact h.congr {}
      all_goals cases hexec; exact h
    · cases hexec; exact h
  | stuck =>
    simp only [exec, execStuck] at hexec
    split at hexec <;> cases hexec
    · exact h.enterStuck ‹_›
    · exact h
  | lineClear =>
    simp only [exec, execLineClear] at hexec
    split at hexec
    · rename_i hst
      have hconf : s.ctl.station.unconfigured = false := by rw [hst]; rfl
      split at hexec <;> cases hexec
      · rename_i hheld
        exact .enterTxFault (h.loader.congr rfl rfl rfl fun _ => id) hconf h.round.cursor (h.sender.txHeld hheld).1
      · rename_i hheld
        obtain ⟨-, -, hpending⟩ := h.sender.idle (by simp [hst])
        refine .enterListen _ ?_ h.round.cursor hpending (Bool.eq_false_iff.mpr hheld)
        exact h.loader.moves hconf (by simp [Station.unconfigured]) (by simp) (by simp)
    · cases hexec; exact h
  | tick sample =>
    simp only [exec, execTick] at hexec
    split at hexec <;> cases hexec
    · rename_i cfg inputs _ _
      exact (h.acceptInputs cfg inputs).congr {}
    · exact h.congr {}
    · exact h.congr {}
  | inputAccepted =>
    simp only [exec, execInputAccepted] at hexec
    split at hexec <;> cases hexec
    · exact h.acceptInputs _ _
    · exact h
    · exact h
  | chipSelectFalling =>
    simp only [exec, execChipSelectFalling] at hexec
    split at hexec <;> cases hexec
    · rename_i hfalls
      exact ⟨⟨h.loader.held, h.loader.loading, h.loader.pins, fun hp => absurd hfalls.1 hp, h.loader.accepted⟩,
        h.round.congr rfl rfl rfl rfl, h.sender.congr rfl rfl rfl rfl rfl⟩
    · exact h.congr {}
  | readStatus part => cases hexec; exact h.tapCommand fun l _ hu => hu.readEffect _ l
  | readCounters part => cases hexec; exact h.tapCommand fun l _ hu => hu.readEffect _ l
  | readRoster first last part => cases hexec; exact h.tapCommand fun l _ hu => hu.readEffect _ l
  | readPoints station part => cases hexec; exact h.tapCommand fun l _ hu => hu.readEffect _ l
  | readTerms part => cases hexec; exact h.tapCommand fun l _ hu => hu.readEffect _ l
  | takeEvents n part => cases hexec; exact h.tapCommand fun l _ hu => hu.takeEffect _ l
  | withdraw part => cases hexec; exact h.tapCommand fun _ _ hu => hu.withdrawEffect
  | rejoin part => cases hexec; exact h.tapCommand fun _ _ hu => hu.rejoinEffect
  | repack part => cases hexec; exact h.tapCommand fun _ _ hu => hu.repackEffect
  | clearCounters part => cases hexec; exact h.tapCommand fun _ _ hu => hu.congr {}
  | restart part => cases hexec; exact h.tapCommand fun _ u _ => .restartEffect u
  | loadConfig image part =>
    simp only [exec, execLoadConfig] at hexec
    split at hexec
    · cases hexec; exact h.tapCommand fun _ _ hu => hu.loadEffect _
    · split at hexec <;> cases hexec
      · exact h.arrive _ _ _
      · exact h.arrive _ _ _
      · exact h.riseMalformed _
      · exact (h.arrive _ _ _).riseMalformed _
  | malformed bits =>
    simp only [exec, execMalformed] at hexec
    split at hexec
    · cases hexec; exact h
    split at hexec <;> cases hexec
    · exact (h.arrive _ _ _).riseMalformed _
    · exact h.arrive _ _ _

/-- Settles O55. -/
theorem stepKeepsStationLaws : Obligations.StepKeepsStationLaws := by
  intro s t hstation hconfiguration hloss hstep
  have h := (stands_iff s).mpr ⟨hstation, hconfiguration, hloss⟩
  refine (stands_iff t).mp ?_
  unfold step at hstep
  split at hstep
  · cases hstep
    exact h.clock
  · exact exec_stands (h.congr {}) hstep

end Sys2Proof.Machine
end

section
/-! PROOFS of the statements on the walk, the marks, the boundaries and the line faults. -/

-- One proof after another, as in the sections above: every thread that elaborates a proof reserves a stack of its own.
set_option Elab.async false

namespace Sys2Proof.Machine

/-! ### What a command does to walk and round count (R53, R54, R57, R61, R63) -/

theorem Walk.notOpen_iff (w : Walk) : w.notOpen = true ↔ ∀ cursor, w ≠ .opened cursor := by
  cases w <;> simp [Walk.notOpen]

/-- Walk and round count stand. -/
structure RoundTracker.Keeps (t t' : RoundTracker) : Prop where
  walk : t'.walk = t.walk := by rfl
  round : t'.round = t.round := by rfl

theorem RoundTracker.Keeps.of_eq {t t' : RoundTracker} (h : t' = t) : t.Keeps t' := h ▸ {}

/-- What a command other than an entry to LOADING can make of walk and round count. -/
inductive RoundTracker.Moves (t t' : RoundTracker) : Prop
  | keeps (h : t.Keeps t')
  /-- The cursor of the open walk rises (R54, R61). -/
  | rises {cursor : Cursor} {n : StationNo} (wasOpen : t.walk = .opened cursor) (below : cursor.below n = true)
      (isOpen : t'.walk = .opened (.slot n)) (round : t'.round = t.round)
  /-- The walk is not open afterwards (R55, R56, R63). -/
  | closes (notOpen : ∀ cursor, t'.walk ≠ .opened cursor) (round : t'.round = t.round)
  /-- A mark ends (R57). -/
  | opens (notOpen : ∀ cursor, t.walk ≠ .opened cursor) (isOpen : t'.walk = .opened .beforeZero) (round : t'.round = t.round + 1)

namespace RoundTracker.Moves

theorem refl (t : RoundTracker) : t.Moves t := .keeps {}

theorem of_eq {t t' : RoundTracker} (h : t' = t) : t.Moves t' := .keeps (.of_eq h)

theorem after_keeps {t u v : RoundTracker} (h : t.Keeps u) (h' : u.Moves v) : t.Moves v := by
  cases h' with
  | keeps h' => exact .keeps ⟨h'.walk.trans h.walk, h'.round.trans h.round⟩
  | rises wasOpen below isOpen round => exact .rises (h.walk ▸ wasOpen) below isOpen (h.round ▸ round)
  | closes notOpen round => exact .closes notOpen (h.round ▸ round)
  | opens notOpen isOpen round => exact .opens (h.walk ▸ notOpen) isOpen (h.round ▸ round)

theorem then_keeps {t u v : RoundTracker} (h : t.Moves u) (h' : u.Keeps v) : t.Moves v := by
  cases h with
  | keeps h => exact .keeps ⟨h'.walk.trans h.walk, h'.round.trans h.round⟩
  | rises wasOpen below isOpen round => exact .rises wasOpen below (h'.walk.trans isOpen) (h'.round.trans round)
  | closes notOpen round => exact .closes (fun c hc => notOpen c (h'.walk.symm.trans hc)) (h'.round.trans round)
  | opens notOpen isOpen round => exact .opens notOpen (h'.walk.trans isOpen) (h'.round.trans round)

end RoundTracker.Moves

/-- A lost attempt stops the timer at most (R97, R119). -/
theorem State.attemptLost_keepsWalk (s : State) : s.trk.Keeps s.attemptLost.trk := by
  simp only [State.attemptLost]
  split
  · exact ⟨by simp [State.enterTxFault, RoundTracker.stopTimer], by simp [State.enterTxFault, RoundTracker.stopTimer]⟩
  · split
    · exact .of_eq (State.enter_trk ..)
    · exact {}

theorem State.loseUnderMark_keepsWalk (s : State) : s.trk.Keeps s.loseUnderMark.trk := by
  unfold State.loseUnderMark
  split
  · exact s.attemptLost_keepsWalk
  · exact {}

theorem State.settleTakenOver_keepsWalk (own : Bool) (s : State) : s.trk.Keeps (s.settleTakenOver own).trk := by
  unfold State.settleTakenOver
  repeat' split
  · exact {}
  · exact s.attemptLost_keepsWalk
  · exact {}

/-- A frame that is counted and sorted moves the walk by a forward slip at most (R54, R61). -/
theorem State.countAndSort_movesWalk (cfg : Configuration) (start : Walk) (v : Verdict) (s : State) :
    s.trk.Moves (s.countAndSort cfg start v).trk := by
  unfold State.countAndSort
  split
  · cases v with
    | check => exact .refl _
    | header => exact .refl _
    | valid kind h points =>
      cases start with
      | idle => exact .refl _
      | closed => exact .refl _
      | opened cursor =>
        simp only [State.sortFrame]
        split
        · exact .refl _
        split
        · exact .of_eq (State.handOn_trk ..)
        split
        · rw [State.handOn_trk, State.slip_trk]
          rcases s.trk.slipTo_cases h.station with he | ⟨c, hopen, hbelow, he⟩ <;> rw [State.count_trk, he]
          · exact .refl _
          · exact .rises hopen hbelow rfl rfl
        · exact .of_eq (State.handOn_trk ..)
  · exact .refl _

theorem State.foreignFrame_movesWalk (cfg : Configuration) (start : Walk) (body : List Byte) (lossFirst : Bool) (s : State) :
    s.trk.Moves (s.foreignFrame cfg start body lossFirst).trk := by
  simp only [State.foreignFrame]
  split
  · exact .after_keeps (s.settleTakenOver_keepsWalk _) (State.countAndSort_movesWalk ..)
  · exact (State.countAndSort_movesWalk cfg start _ s).then_keeps (State.settleTakenOver_keepsWalk _ _)

theorem State.cutIfOpen_movesWalk (cfg : Configuration) (s : State) : s.trk.Moves (s.cutIfOpen cfg).trk := by
  unfold State.cutIfOpen
  split
  · rename_i cursor _
    have hpassed : (if cursor.below cfg.own then s.passedUnopened cfg else s).trk = s.trk := by
      split
      · exact State.passedUnopened_trk cfg s
      · rfl
    refine .closes (fun c => ?_) ?_
    · simp [State.closeCut, RoundTracker.closeWalk]
    · simp [State.closeCut, RoundTracker.closeWalk, hpassed]
  all_goals exact .refl _

/-- The boundary that does not close the walk opens a slot above the cursor (R54). -/
theorem Cursor.below_next {cursor : Cursor} {high : StationNo} (h : cursor.nextNumber ≤ high.val) :
    cursor.below (Fin.ofNat 32 cursor.nextNumber) = true := by
  cases cursor with
  | beforeZero => rfl
  | slot m =>
    have hlt : m.val + 1 < 32 := Nat.lt_of_le_of_lt h high.isLt
    simp [Cursor.below, Cursor.nextNumber, Fin.lt_def, Nat.mod_eq_of_lt hlt]

theorem State.boundary_movesWalk {cfg : Configuration} {cursor : Cursor} {s : State} (hopen : s.trk.walk = .opened cursor) :
    s.trk.Moves (s.boundary cfg cursor).trk := by
  simp only [State.boundary]
  split
  · refine .closes (fun c => ?_) ?_
    · simp [State.closeNormal, RoundTracker.closeWalk]
    · simp [State.closeNormal, RoundTracker.closeWalk]
  · rename_i hle
    have hbelow := Cursor.below_next (not_lt.mp hle)
    split
    · rw [State.openOwnSlot_trk]
      exact .rises hopen hbelow rfl rfl
    · exact .rises hopen hbelow rfl rfl

/-- What a command makes of walk and round count, or LOADING is entered (R63). -/
def MovesWalk (s t : State) : Prop := s.trk.Moves t.trk ∨ (t.trk.round = 0 ∧ t.trk.walk = .idle ∧ t.ctl.station = .loading)

theorem MovesWalk.of_trk {s t : State} (h : t.trk = s.trk) : MovesWalk s t := .inl (.of_eq h)

theorem State.boot_movesWalk (strap : Strap) (detail : Nat) (s : State) : MovesWalk s (s.boot strap detail) := by
  rw [State.boot_eq]
  exact .inr ⟨rfl, rfl, rfl⟩

/-- A tap command moves walk and round count only as its effect does (R156). -/
theorem State.tapCommand_movesWalk {code : Nat} {args : List Byte} {part : TapPart} {response : State → List Byte}
    {take : State → Nat} {effect : Latch → State → State} (s : State) (he : ∀ l u, MovesWalk u (effect l u)) :
    MovesWalk s (s.tapCommand code args part response take effect) := by
  rcases s.tapCommand_cases code args part response take effect with
    h | h | ⟨o, clocks, _, h⟩ | ⟨l, o, clocks, _, h⟩ <;> rw [h]
  · exact .of_trk rfl
  · exact .of_trk rfl
  · exact .of_trk rfl
  · simpa [MovesWalk] using he l (s.transact o clocks)

theorem State.loadEffect_movesWalk (image : List Byte) (s : State) : MovesWalk s (s.loadEffect image) := by
  rcases s.loadEffect_cases image with ⟨_, _, h⟩ | ⟨_, _, h⟩ | ⟨_, h⟩ <;> rw [h]
  · exact .of_trk rfl
  · exact .of_trk rfl
  · exact .inr ⟨by simp [State.loadEntry]; rfl, by simp [State.loadEntry]; rfl, by simp [State.loadEntry, Controller.reset]⟩

/-- What each command makes of walk and round count. -/
theorem exec_movesWalk {c : Instr} {s t : State} (h : exec c s = .next t) : MovesWalk s t := by
  cases c with
  | powerOn strap => cases h; exact s.boot_movesWalk strap _
  | resetNLow => cases h; exact .inr ⟨rfl, rfl, rfl⟩
  | resetNRising strap =>
    simp only [exec, execResetNRising] at h
    split at h <;> cases h
    · exact s.boot_movesWalk strap _
    · exact s.boot_movesWalk strap _
    · exact .of_trk rfl
  | readingComplete bytes =>
    simp only [exec, execReadingComplete] at h
    split at h <;> cases h <;> exact .of_trk rfl
  | checkingComplete raw =>
    simp only [exec, execCheckingComplete] at h
    split at h
    · split at h <;> cases h
      · exact .inl (.keeps ⟨by simp [State.configGood, RoundTracker.startTimer], by simp [State.configGood, RoundTracker.startTimer]⟩)
      · exact .of_trk (by simp)
    all_goals cases h; exact .of_trk rfl
  | roundTimerExpiry =>
    simp only [exec, execRoundTimerExpiry] at h
    repeat' split at h
    all_goals cases h; exact .inl (.keeps {})
  | markBegin =>
    simp only [exec, execMarkBegin] at h
    split at h <;> cases h <;> exact .of_trk rfl
  | markFailed => cases h; exact .of_trk rfl
  | markRelease => cases h; exact .of_trk rfl
  | markRecognised lossFirst =>
    simp only [exec, execMarkRecognised] at h
    split at h
    · cases h; exact .of_trk rfl
    split at h
    · have hmarked : s.trk.Keeps (State.restartTimer { s with rx := Receiver.idleAfter dominant }).trk := {}
      split at h <;> cases h
      · exact .inl (.after_keeps hmarked (.after_keeps (State.loseUnderMark_keepsWalk _) (State.cutIfOpen_movesWalk ..)))
      · exact .inl (.after_keeps hmarked ((State.cutIfOpen_movesWalk ..).then_keeps (State.loseUnderMark_keepsWalk _)))
    · cases h; exact .of_trk rfl
  | markEnd =>
    simp only [exec, execMarkEnd] at h
    split at h <;> cases h
    · rename_i hmark
      exact .inl (.opens ((Walk.notOpen_iff _).mp hmark.2) rfl rfl)
    · exact .of_trk rfl
  | slotBoundary =>
    simp only [exec, execSlotBoundary] at h
    have hsaw : s.trk.Keeps s.sawRecessive.trk := .of_eq (by simp)
    split at h <;> cases h
    · rename_i hopen
      exact .inl (.after_keeps hsaw (State.boundary_movesWalk (by simpa using hopen)))
    · exact .inl (.keeps hsaw)
    · exact .inl (.keeps hsaw)
    · exact .of_trk rfl
  | startBit taken =>
    simp only [exec, execStartBit] at h
    repeat' split at h
    all_goals cases h; exact .of_trk rfl
  | collision bit =>
    simp only [exec, execCollision] at h
    split at h <;> cases h
    · exact .of_trk (State.foreignFrom_trk bit s)
    · exact .of_trk rfl
  | transceiverFault bit =>
    simp only [exec, execTransceiverFault] at h
    split at h <;> cases h
    · exact .inl (.after_keeps (.of_eq (State.foreignFrom_trk bit s)) (.keeps (State.attemptLost_keepsWalk _)))
    · exact .of_trk rfl
  | attemptSent =>
    simp only [exec, execAttemptSent] at h
    split at h <;> cases h
    · exact .of_trk (by simp)
    · exact .of_trk rfl
  | frameReceived levels first =>
    simp only [exec, execFrameReceived] at h
    split at h
    · cases h; exact .of_trk rfl
    split at h
    · split at h
      · split at h <;> cases h
        · exact .of_trk rfl
        · exact .inl (State.foreignFrame_movesWalk _ _ _ _ { s with rx := Receiver.idleAfter dominant })
      all_goals cases h; exact .of_trk rfl
    · cases h; exact .of_trk rfl
  | badFrame levels =>
    simp only [exec, execBadFrame] at h
    split at h
    · cases h; exact .of_trk rfl
    split at h
    · split at h
      · cases h
        refine .inl (.after_keeps (.of_eq ?_) (.keeps (State.settleTakenOver_keepsWalk _ _)))
        split <;> rfl
      all_goals cases h; exact .of_trk rfl
    · cases h; exact .of_trk rfl
  | stuck =>
    simp only [exec, execStuck] at h
    split at h <;> cases h
    · exact .inl (.closes (fun c => by simp [State.enterStuck]) (by simp [State.enterStuck, RoundTracker.stopTimer]))
    · exact .of_trk rfl
  | lineClear =>
    simp only [exec, execLineClear] at h
    split at h
    · split at h <;> cases h
      · exact .inl (.keeps ⟨by simp [State.enterTxFault, RoundTracker.stopTimer], by simp [State.enterTxFault, RoundTracker.stopTimer]⟩)
      · exact .inl (.keeps ⟨by simp [RoundTracker.startTimer], by simp [RoundTracker.startTimer]⟩)
    · cases h; exact .of_trk rfl
  | tick sample =>
    simp only [exec, execTick] at h
    split at h <;> cases h
    · exact .of_trk (State.acceptInputs_trk _ _ s)
    · exact .of_trk rfl
    · exact .of_trk rfl
  | inputAccepted =>
    simp only [exec, execInputAccepted] at h
    split at h <;> cases h
    · exact .of_trk (State.acceptInputs_trk _ _ s)
    · exact .of_trk rfl
    · exact .of_trk rfl
  | chipSelectFalling =>
    simp only [exec, execChipSelectFalling] at h
    split at h <;> cases h <;> exact .of_trk rfl
  | readStatus part => cases h; exact s.tapCommand_movesWalk fun l u => .of_trk (readEffect_trk _ l u)
  | readCounters part => cases h; exact s.tapCommand_movesWalk fun l u => .of_trk (readEffect_trk _ l u)
  | readRoster first last part => cases h; exact s.tapCommand_movesWalk fun l u => .of_trk (readEffect_trk _ l u)
  | readPoints station part => cases h; exact s.tapCommand_movesWalk fun l u => .of_trk (readEffect_trk _ l u)
  | readTerms part => cases h; exact s.tapCommand_movesWalk fun l u => .of_trk (readEffect_trk _ l u)
  | takeEvents n part => cases h; exact s.tapCommand_movesWalk fun l u => .of_trk (takeEffect_trk _ l u)
  | withdraw part => cases h; exact s.tapCommand_movesWalk fun _ u => .of_trk u.withdrawEffect_trk
  | rejoin part => cases h; exact s.tapCommand_movesWalk fun _ u => .of_trk u.rejoinEffect_trk
  | repack part => cases h; exact s.tapCommand_movesWalk fun _ u => .of_trk u.repackEffect_trk
  | clearCounters part => cases h; exact s.tapCommand_movesWalk fun _ u => .of_trk u.clearEffect_trk
  | restart part =>
    cases h
    exact s.tapCommand_movesWalk fun _ u => .inr ⟨by simp [State.restartEffect]; rfl, by simp [State.restartEffect]; rfl,
      by simp [State.restartEffect, Controller.reset]⟩
  | loadConfig image part =>
    simp only [exec, execLoadConfig] at h
    split at h
    · cases h; exact s.tapCommand_movesWalk fun _ => State.loadEffect_movesWalk _
    · split at h <;> cases h <;> exact .of_trk (by simp)
  | malformed bits =>
    simp only [exec, execMalformed] at h
    repeat' split at h
    all_goals cases h; exact .of_trk (by simp)

/-- What a step makes of walk and round count: a bit time leaves both. -/
theorem step_movesWalk {s t : State} (h : step s = .next t) : MovesWalk s t := by
  unfold step at h
  split at h
  · cases h
    exact .inl (.keeps ⟨s.clock_walk, s.clock_round⟩)
  · rename_i c rest _
    exact exec_movesWalk (s := { s with pending := rest }) h

/-- Settles O58. -/
theorem cursorRisesAndRoundAdvances : Obligations.CursorRisesAndRoundAdvances := by
  refine ⟨fun s t before after h hs ht => ?_, fun s t h => ?_⟩
  · rcases step_movesWalk h with hmove | ⟨-, hidle, -⟩
    · cases hmove with
      | keeps hk =>
        have hwalk := ht.symm.trans (hk.walk.trans hs)
        exact .inl (by simpa using hwalk)
      | rises wasOpen below isOpen _ =>
        obtain rfl : _ = before := by simpa using wasOpen.symm.trans hs
        exact .inr ⟨_, by simpa using ht.symm.trans isOpen, below⟩
      | closes notOpen _ => exact absurd ht (notOpen after)
      | opens notOpen _ _ => exact absurd hs (notOpen before)
    · exact absurd (hidle.symm.trans ht) (by simp)
  · rcases step_movesWalk h with hmove | ⟨hround, -, hloading⟩
    · cases hmove with
      | keeps hk => exact .inl hk.round
      | rises _ _ _ round => exact .inl round
      | closes _ round => exact .inl round
      | opens notOpen isOpen round => exact .inr (.inl ⟨round, isOpen, notOpen⟩)
    · exact .inr (.inr ⟨hround, hloading⟩)
/-! ### The transmit pin (R50, R89, R105, R172) -/

theorem State.ltx_of_mark {s : State} (h : s.line.mark ≠ none) : s.ltx = dominant := by
  obtain ⟨k, hk⟩ := Option.ne_none_iff_exists'.mp h
  rw [State.ltx, hk]

/-- With neither mark nor frame the pin is recessive. -/
theorem State.ltx_of_not_driving {s : State} (hmark : s.line.mark = none) (hdrive : s.tx.attempt ≠ .driving) :
    s.ltx = recessive := by
  rw [State.ltx, hmark]
  cases hattempt : s.tx.attempt with
  | idle => rfl
  | driving => exact absurd hattempt hdrive
  | takenOver => rfl

/-- Settles O60. -/
theorem releasedPartDrivesNothing : Obligations.ReleasedPartDrivesNothing := by
  rintro s ⟨-, -, -, htiming, hsender, -⟩
  refine ⟨fun hlte => ?_, fun hdominant => ?_⟩
  · have hunconf : s.ctl.station.unconfigured = true := by simpa [State.lte] using hlte
    have hnotiming : s.ctl.station.timing = false :=
      Bool.eq_false_iff.mpr fun ht => absurd (Station.configured_of_timing ht) (by simp [hunconf])
    refine State.ltx_of_not_driving (htiming hnotiming).2.2 fun hdrive => ?_
    rw [hsender (.inl (by simp [hdrive]))] at hunconf
    exact absurd hunconf (by decide)
  · by_cases hmark : s.line.mark = none
    · refine .inr (hsender (.inl fun hidle => ?_))
      rw [State.ltx_of_not_driving hmark (by simp [hidle])] at hdominant
      exact absurd hdominant (by decide)
    · exact .inl ⟨hmark, by_contra fun hn => hmark (htiming (Bool.eq_false_iff.mpr hn)).2.2⟩

/-! ### The timer's expiry and the own mark (R49–R51) -/

/-- A mark may begin where one is due in a timing state, the walk not open and nothing driven (R50). -/
theorem State.mayMark_iff (s : State) :
    s.mayMark = true ↔ s.trk.markDue = true ∧ s.ctl.station.timing = true ∧ (∀ cursor, s.trk.walk ≠ .opened cursor) ∧
      s.line.mark = none ∧ s.tx.attempt ≠ .driving := by
  simp [State.mayMark, State.drives, Walk.notOpen_iff, and_assoc]

/-- Settles O9. -/
theorem dueMarkBeginsAndReleases : Obligations.DueMarkBeginsAndReleases := by
  refine ⟨fun s b hb => ?_, fun s => ⟨fun hdue htiming hwalk hmark hdrive => ?_, rfl, rfl⟩⟩
  · have hexec : exec .roundTimerExpiry s = execRoundTimerExpiry s := rfl
    rw [hexec, execRoundTimerExpiry, hb]
    cases s.trk.walk with
    | idle => rfl
    | opened cursor => rfl
    | closed => rfl
  · have hmay : s.mayMark = true := s.mayMark_iff.mpr ⟨hdue, htiming, hwalk, hmark, hdrive⟩
    exact ⟨_, if_pos hmay, rfl, State.ltx_of_mark (by simp)⟩

/-! ### The end of a mark and the boundaries (R53–R55, R57) -/

/-- Settles O11. -/
theorem markEndOpensWalk : Obligations.MarkEndOpensWalk := by
  intro s hmark hwalk
  exact ⟨_, if_pos ⟨hmark, s.trk.walk.notOpen_iff.mpr hwalk⟩, rfl, BitVec.toNat_add _ _⟩

theorem State.sawRecessive_of_receives {s : State} (h : s.ctl.station.receives = true) :
    s.sawRecessive = { s with rx := { s.rx with prevRecessive := true } } := if_pos h

/-- The turn of R90, as the sender judges it at the own slot (R89). -/
theorem dueRound_iff (cfg : Configuration) (round : BitVec 16) :
    dueRound cfg round = true ↔ round.toNat % cfg.cadence.rounds = cfg.phase := decide_eq_true_iff

/-- Without a turn due, or with an attempt under way, the own slot opens nothing (R89). -/
theorem State.openOwnSlot_of_no_turn {cfg : Configuration} {s : State} (h : ¬ s.hadTurn cfg ∨ s.tx.attempt ≠ .idle) :
    s.openOwnSlot cfg = s := by
  unfold State.openOwnSlot
  split
  · rename_i hslot
    obtain ⟨hactive, hidle⟩ := hslot
    have hturn : ¬ s.hadTurn cfg := h.resolve_right fun hn => hn hidle
    have hpending : ¬ s.ctl.withdrawalPending = true := fun hp => hturn ⟨hactive, .inl hp⟩
    have hround : ¬ dueRound cfg s.trk.round = true := fun hr => hturn ⟨hactive, .inr ((dueRound_iff _ _).mp hr)⟩
    rw [if_neg hpending, if_neg hround]
  · rfl

/-- The boundary of an open walk, whose bit is recessive for the receiver (R47, R54). -/
theorem exec_slotBoundary_opened {s : State} {cfg : Configuration} {cursor : Cursor} (hc : s.ldr.config = some cfg)
    (hr : s.ctl.station.receives = true) (hopen : s.trk.walk = .opened cursor) :
    exec .slotBoundary s = .next (State.boundary cfg cursor { s with rx := { s.rx with prevRecessive := true } }) := by
  have hexec : exec .slotBoundary s = execSlotBoundary s := rfl
  rw [hexec, execSlotBoundary, hc, hopen]
  simp only [State.sawRecessive_of_receives hr]

/-- Without an open walk a boundary moves nothing but the receiver's latest level (R53). -/
theorem exec_slotBoundary_notOpen {s : State} {cfg : Configuration} (hc : s.ldr.config = some cfg)
    (hr : s.ctl.station.receives = true) (hclosed : ∀ cursor, s.trk.walk ≠ .opened cursor) :
    exec .slotBoundary s = .next { s with rx := { s.rx with prevRecessive := true } } := by
  have hexec : exec .slotBoundary s = execSlotBoundary s := rfl
  rw [hexec, execSlotBoundary, hc]
  cases hw : s.trk.walk with
  | idle => simp only [State.sawRecessive_of_receives hr]
  | closed => simp only [State.sawRecessive_of_receives hr]
  | opened cursor => exact absurd hw (hclosed cursor)

/-- A boundary up to slot H advances the cursor (R54). -/
theorem State.boundary_advances {cfg : Configuration} {cursor : Cursor} {n : StationNo} (hnext : cursor.nextNumber = n.val)
    (hle : n ≤ cfg.high) (s : State) :
    s.boundary cfg cursor =
      if n = cfg.own then State.openOwnSlot cfg { s with trk := { s.trk with walk := .opened (.slot n) } }
      else { s with trk := { s.trk with walk := .opened (.slot n) } } := by
  have hn : Fin.ofNat 32 cursor.nextNumber = n := by
    rw [hnext]
    exact Fin.ext (Nat.mod_eq_of_lt n.isLt)
  have hopen : ¬ cfg.high.val < cursor.nextNumber := by
    rw [hnext]
    exact Nat.not_lt.mpr hle
  rw [State.boundary, if_neg hopen, hn]

/-- Settles O12. -/
theorem boundaryAdvancesCursorOrCloses : Obligations.BoundaryAdvancesCursorOrCloses := by
  refine ⟨fun s cfg hc hr => ⟨fun cursor n hopen hsucc hle hno => ?_, exec_slotBoundary_notOpen hc hr⟩,
    fun s cfg n hc hr hopen hlast => ?_⟩
  · have hnext : cursor.nextNumber = n.val := by
      rcases hsucc with ⟨rfl, hn⟩ | ⟨m, rfl, hn⟩
      · exact hn.symm
      · exact hn.symm
    rw [exec_slotBoundary_opened hc hr hopen, State.boundary_advances hnext hle]
    split
    · rename_i hown
      exact congrArg Host.Outcome.next (State.openOwnSlot_of_no_turn (hno.resolve_left fun hn => hn hown))
    · rfl
  · rw [exec_slotBoundary_opened hc hr hopen]
    exact congrArg Host.Outcome.next (if_pos (Nat.lt_succ_of_le hlast))

/-! ### A mark recognised (R46, R49, R53, R56, R75, R90, R97) -/

/-- The timer runs in every receiving state but LINE_FAULT with reason TX (R49). -/
theorem Station.timing_of_receives {st : Station} (h : st.receives = true) : st.timing = true ↔ st ≠ .lineFault .tx := by
  cases st with
  | loading | configFault _ => exact nomatch h
  | listen _ | active | withdrawn | duplicate => simp [Station.timing]
  | lineFault reason =>
    cases reason with
    | stuck => exact nomatch h
    | tx => simp [Station.timing]

/-- The part at a mark, before an attempt is lost or the walk is cut: timer and flag set, the reception dropped (R49, R75). -/
def State.marked (s : State) : State :=
  { s with
    trk := { s.trk with
      timer := if s.ctl.station = .lineFault .tx then s.trk.timer else .running 9
      markDue := false
      inMark := true }
    rx := { Receiver.fresh with prevRecessive := false } }

theorem State.restartTimer_eq_marked {s : State} (h : s.ctl.station.receives = true) :
    State.restartTimer { s with rx := Receiver.idleAfter dominant } = s.marked := by
  have htiming := Station.timing_of_receives h
  unfold State.restartTimer State.marked
  by_cases htx : s.ctl.station = .lineFault .tx
  · have hstopped : ¬ s.ctl.station.timing = true := fun ht => htiming.mp ht htx
    simp only [htx, if_true, if_neg (htx ▸ hstopped)]
    rfl
  · simp only [htiming.mpr htx, if_true, if_neg htx]
    rfl

/-- MARK_RECOGNISED, with loss and cut in either order (R97). -/
theorem exec_markRecognised {s : State} {cfg : Configuration} (hc : s.ldr.config = some cfg)
    (hr : s.ctl.station.receives = true) (first : Bool) :
    exec (.markRecognised first) s =
      if first then .next (s.marked.loseUnderMark.cutIfOpen cfg) else .next (s.marked.cutIfOpen cfg).loseUnderMark := by
  have hexec : exec (.markRecognised first) s = execMarkRecognised first s := rfl
  rw [hexec, execMarkRecognised, hc]
  simp only [hr, if_true, State.restartTimer_eq_marked hr]

theorem State.loseUnderMark_of_ne {s : State} (h : s.tx.attempt ≠ .takenOver) : s.loseUnderMark = s := if_neg h

theorem State.loseUnderMark_of_takenOver {s : State} (h : s.tx.attempt = .takenOver) : s.loseUnderMark = s.attemptLost :=
  if_pos h

theorem State.cutIfOpen_of_notOpen {cfg : Configuration} {s : State} (h : ∀ cursor, s.trk.walk ≠ .opened cursor) :
    s.cutIfOpen cfg = s := by
  unfold State.cutIfOpen
  split
  · exact absurd ‹_› (h _)
  all_goals rfl

/-- The part as a cut leaves it to the close work: the walk closed, the close counted (R56, R64). -/
def State.cutWalk (s : State) : State :=
  { s with
    trk := { s.trk with walk := .closed }
    cnt := { s.cnt with closes := min (s.cnt.closes + 1) 65535, cutCloses := min (s.cnt.cutCloses + 1) 65535 } }

theorem State.turnDue_iff (cfg : Configuration) (s : State) : s.turnDue cfg = true ↔ s.hadTurn cfg := by
  simp [State.turnDue, State.hadTurn, dueRound]

/-- A missed turn is counted where the own slot passed with a turn due (R90). -/
theorem State.passedUnopened_of_turn {cfg : Configuration} {s : State} (h : s.hadTurn cfg) :
    s.passedUnopened cfg = s.count Counters.bumpMissedTurns := if_pos ((State.turnDue_iff cfg s).mpr h)

theorem State.passedUnopened_of_no_turn {cfg : Configuration} {s : State} (h : ¬ s.hadTurn cfg) : s.passedUnopened cfg = s :=
  if_neg (mt (State.turnDue_iff cfg s).mp h)

/-- A cut: a missed turn where the own slot passed unopened, then the close work under the recorded cursor (R54, R56, R90). -/
theorem State.cutIfOpen_of_opened {cfg : Configuration} {s : State} {cursor : Cursor} (h : s.trk.walk = .opened cursor) :
    s.cutIfOpen cfg =
      State.closeWork cfg (some cursor) (if cursor.below cfg.own then s.passedUnopened cfg else s).cutWalk := by
  unfold State.cutIfOpen
  rw [h]
  rfl

theorem State.controlAtClose_attempt {cfg : Configuration} {s : State} :
    (s.controlAtClose cfg).tx.attempt = s.tx.attempt ∨ (s.controlAtClose cfg).tx.attempt = .idle := by
  unfold State.controlAtClose
  repeat' split
  · exact .inl (by simp [Sender.enter])
  · exact .inl rfl
  · exact .inl rfl
  · exact .inr rfl
  all_goals exact .inl rfl

/-- The close work takes over no attempt. -/
theorem State.closeWork_attempt_ne {cfg : Configuration} (cut : Option Cursor) {s : State} (h : s.tx.attempt ≠ .takenOver) :
    (s.closeWork cfg cut).tx.attempt ≠ .takenOver := by
  rw [State.closeWork_tx]
  rcases State.controlAtClose_attempt (cfg := cfg) (s := s.evaluatedAtClose cfg cut) with he | he <;> rw [he]
  · simpa using h
  · decide

theorem State.cutIfOpen_attempt_ne {cfg : Configuration} {s : State} (h : s.tx.attempt ≠ .takenOver) :
    (s.cutIfOpen cfg).tx.attempt ≠ .takenOver := by
  unfold State.cutIfOpen
  split
  · refine State.closeWork_attempt_ne _ ?_
    split
    · simpa using h
    · exact h
  all_goals exact h

/-- A mark recognised with no attempt taken over, in either order (R49, R56). -/
theorem exec_markRecognised_of_ne {s : State} {cfg : Configuration} (hc : s.ldr.config = some cfg)
    (hr : s.ctl.station.receives = true) (ha : s.tx.attempt ≠ .takenOver) (first : Bool) :
    exec (.markRecognised first) s = .next (s.marked.cutIfOpen cfg) := by
  have hmarked : s.marked.tx.attempt ≠ .takenOver := ha
  rw [exec_markRecognised hc hr, State.loseUnderMark_of_ne hmarked, State.loseUnderMark_of_ne (State.cutIfOpen_attempt_ne hmarked),
    ite_self]

/-- Settles O10. -/
theorem recognisedMarkRestartsTimerAndCuts : Obligations.RecognisedMarkRestartsTimerAndCuts := by
  refine ⟨fun s cfg first hc hr hclosed ha => ?_, fun s cfg first cursor hc hr hopen ha => ?_⟩
  · rw [exec_markRecognised_of_ne hc hr ha, State.cutIfOpen_of_notOpen (by exact hclosed)]
    rfl
  · rw [exec_markRecognised_of_ne hc hr ha, State.cutIfOpen_of_opened (s := s.marked) hopen]
    refine congrArg (fun u => Host.Outcome.next (State.closeWork cfg (some cursor) u)) ?_
    by_cases hmissed : s.hadTurn cfg ∧ cursor.below cfg.own = true
    · rw [if_pos hmissed.2, State.passedUnopened_of_turn (by exact hmissed.1)]
      exact congrArg (fun n => { s.marked.cutWalk with cnt := { s.marked.cutWalk.cnt with missedTurns := n } })
        (if_pos hmissed).symm
    · have hnone : (if cursor.below cfg.own then s.marked.passedUnopened cfg else s.marked) = s.marked := by
        split
        · exact State.passedUnopened_of_no_turn fun hturn => hmissed ⟨hturn, ‹_›⟩
        · rfl
      rw [hnone]
      exact congrArg (fun n => { s.marked.cutWalk with cnt := { s.marked.cutWalk.cnt with missedTurns := n } })
        (if_neg hmissed).symm

/-! ### The line faults (R48, R97, R119–R121) -/

/-- An entry to LINE_FAULT with reason TX moves controller, timer, mark, sender, outputs and tap, and nothing else (R119, R121). -/
theorem State.enterTxFault_eq (s : State) :
    s.enterTxFault =
      { s with
        ctl := { s.ctl with
          station := .lineFault .tx, withdrawalPending := false, txHeld := true, lastStop := some (.line .tx) }
        trk := { s.trk with timer := .stopped, markDue := false }
        line := { s.line with mark := none }
        tx := { s.tx with attempt := .idle, kind := none, buffer := none, driven := 0 }
        drv := { s.drv with levels := s.enterTxFault.drv.levels }
        tap := s.enterTxFault.tap } := by
  conv_lhs => rw [State.enterTxFault, State.enter_eq, State.enter_ctl]
  rfl

/-- An entry to LINE_FAULT with reason STUCK moves controller, mark, timer, walk, receiver, sender, outputs and tap (R120). -/
theorem State.enterStuck_eq (s : State) :
    s.enterStuck =
      { s with
        ctl := { s.ctl with station := .lineFault .stuck, withdrawalPending := false, lastStop := some (.line .stuck) }
        line := { s.line with mark := none }
        trk := { s.trk with timer := .stopped, markDue := false, walk := .idle, inMark := false }
        rx := Receiver.fresh
        tx := { s.tx with attempt := .idle, kind := none, buffer := none, driven := 0 }
        drv := { s.drv with levels := s.enterStuck.drv.levels }
        tap := s.enterStuck.tap } := by
  conv_lhs => rw [State.enterStuck, State.enter_eq, State.enter_ctl]
  rfl

/-- An entry to LISTEN moves controller, sender, outputs and tap (R88, R112). -/
theorem State.enterListen_eq (detail : Nat) (s : State) :
    s.enterListen detail =
      { s with
        ctl := { s.ctl with station := .listen 0 }
        tx := { s.tx with attempt := .idle, kind := none, buffer := none, driven := 0, losses := 0 }
        drv := { s.drv with levels := (s.enterListen detail).drv.levels }
        tap := (s.enterListen detail).tap } := by
  conv_lhs => rw [State.enterListen, State.enter_eq, State.enter_ctl]
  rfl

/-- In LINE_FAULT and in LISTEN every output stands at its safe level (R136). -/
theorem safeOutputs_enter {st : Station} (hunconf : st.unconfigured = false) (hfollows : st.followsTerms = false)
    {cfg : Configuration} {s : State} (hc : s.ldr.config = some cfg) (detail : Nat) :
    SafeOutputs cfg (s.enter st detail).drv.levels :=
  safeOutputs_of_levels hunconf hfollows (by rw [State.enter_levels, hc])

/-- Settles O30. -/
theorem fourthLossEntersLineFault : Obligations.FourthLossEntersLineFault := by
  intro s cfg hc hlosses
  have hlost : s.attemptLost = (s.outcome 4 Counters.bumpAttemptsLost).enterTxFault := State.attemptLost_of_last (by omega)
  rw [hlost]
  exact ⟨State.enterTxFault_eq _, safeOutputs_enter rfl rfl (by exact hc) _, postsState_enter (.lineFault .tx) _ (by rfl)⟩

/-- Settles O42. -/
theorem lineFaultByStuckLineAndItsEnd : Obligations.LineFaultByStuckLineAndItsEnd := by
  refine ⟨fun s cfg hc hr => ?_, fun s cfg hc hst => ?_⟩
  · have hpin : s.enterStuck.ltx = recessive := by
      rw [State.enterStuck_eq]
      exact State.ltx_of_not_driving rfl nofun
    exact ⟨_, if_pos hr, State.enterStuck_eq s, safeOutputs_enter rfl rfl (by exact hc) _,
      postsState_enter (.lineFault .stuck) _ rfl, hpin⟩
  · cases hheld : s.ctl.txHeld with
    | false =>
      set u : State := { s with rx := Receiver.fresh, trk := s.trk.startTimer }
      have hexec : exec .lineClear s = .next (u.enterListen detailLineClear) :=
        (if_pos hst).trans (if_neg (by simp [hheld]))
      have heq := State.enterListen_eq detailLineClear u
      have hctl := congrArg State.ctl heq
      have hline := congrArg State.line heq
      have htrk := congrArg State.trk heq
      have htx := congrArg State.tx heq
      refine ⟨_, hexec, heq.trans ?_, safeOutputs_enter rfl rfl (by exact hc) _, fun _ => ⟨hctl, hline, htrk, htx, ?_⟩, nofun⟩
      · rw [hctl, hline, htrk, htx]
        rfl
      · exact postsState_enter (.listen 0) _ rfl
    | true =>
      set u : State := { s with rx := Receiver.fresh }
      have hexec : exec .lineClear s = .next u.enterTxFault := (if_pos hst).trans (if_pos hheld)
      have heq := State.enterTxFault_eq u
      have hctl := congrArg State.ctl heq
      have hline := congrArg State.line heq
      have htrk := congrArg State.trk heq
      have htx := congrArg State.tx heq
      refine ⟨_, hexec, heq.trans ?_, safeOutputs_enter rfl rfl (by exact hc) _, nofun,
        fun _ => ⟨hctl.trans ?_, htrk, hline, htx, ?_⟩⟩
      · rw [hctl, hline, htrk, htx]
      · rw [← hheld]
      · exact postsState_enter (.lineFault .tx) _ rfl

end Sys2Proof.Machine
end

section
/-! PROOFS of the statement on happenings whose conditions fail. -/

-- One proof after another, as in the sections above: every thread that elaborates a proof reserves a stack of its own.
set_option Elab.async false

namespace Sys2Proof.Machine

/-! ### Happenings whose conditions fail (log 1) -/

theorem exec_readingComplete_unmet {s : State} {bytes : List Byte}
    (h : s.ldr.phase ≠ .reading ∨ (s.ldr.buffer ++ bytes).length ≠ 512) : exec (.readingComplete bytes) s = .next s :=
  if_neg fun ⟨hphase, hlength⟩ => h.elim (fun hn => hn hphase) fun hn => hn hlength

theorem exec_resetNRising_running {s : State} (h : s.power = .running) (strap : Strap) :
    exec (.resetNRising strap) s = .next s := by
  have hexec : exec (.resetNRising strap) s = execResetNRising strap s := rfl
  rw [hexec, execResetNRising, h]

theorem exec_checkingComplete_unmet {s : State} (h : s.ldr.phase ≠ .checking) (raw : BitVec 16) :
    exec (.checkingComplete raw) s = .next s := by
  have hexec : exec (.checkingComplete raw) s = execCheckingComplete raw s := rfl
  rw [hexec, execCheckingComplete]
  cases hp : s.ldr.phase with
  | checking => exact absurd hp h
  | idle | reading | waiting => rfl

theorem exec_roundTimerExpiry_unmet {s : State} (h : ∀ b, s.trk.timer ≠ .running b) : exec .roundTimerExpiry s = .next s := by
  have hexec : exec .roundTimerExpiry s = execRoundTimerExpiry s := rfl
  rw [hexec, execRoundTimerExpiry]
  cases ht : s.trk.timer with
  | running b => exact absurd ht (h b)
  | stopped | expired => rfl

theorem exec_markBegin_unmet {s : State} (h : s.trk.markDue = false ∨ s.ctl.station.timing = false ∨
    (∃ cursor, s.trk.walk = .opened cursor) ∨ s.line.mark ≠ none ∨ s.tx.attempt = .driving) :
    exec .markBegin s = .next s := by
  refine if_neg fun hmay => ?_
  obtain ⟨hdue, htiming, hwalk, hmark, hdrive⟩ := s.mayMark_iff.mp hmay
  rcases h with hn | hn | ⟨cursor, hopen⟩ | hn | hn
  · exact absurd (hdue.symm.trans hn) (by decide)
  · exact absurd (htiming.symm.trans hn) (by decide)
  · exact hwalk cursor hopen
  · exact hn hmark
  · exact hdrive hn

/-- Without a mark driven the line is free already (R50). -/
theorem State.releaseMark_of_none {s : State} (h : s.line.mark = none) : s.releaseMark = s := by
  rw [State.releaseMark, ← h]

theorem exec_markRecognised_unmet {s : State} (h : s.ctl.station.receives = false) (first : Bool) :
    exec (.markRecognised first) s = .next s := by
  have hexec : exec (.markRecognised first) s = execMarkRecognised first s := rfl
  rw [hexec, execMarkRecognised, h]
  cases s.ldr.config with
  | none => rfl
  | some cfg => rfl

theorem exec_frameReceived_silent {s : State} (h : s.ctl.station.receives = false) (levels : List Level) (first : Bool) :
    exec (.frameReceived levels first) s = .next s := by
  have hexec : exec (.frameReceived levels first) s = execFrameReceived levels first s := rfl
  rw [hexec, execFrameReceived, h]
  cases s.ldr.config with
  | none => rfl
  | some cfg => rfl

theorem exec_badFrame_silent {s : State} (h : s.ctl.station.receives = false) (levels : List Level) :
    exec (.badFrame levels) s = .next s := by
  have hexec : exec (.badFrame levels) s = execBadFrame levels s := rfl
  rw [hexec, execBadFrame, h]
  cases s.ldr.config with
  | none => rfl
  | some cfg => rfl

theorem exec_frameReceived_unmet {s : State} {levels : List Level}
    (h : ∀ body, s.rx.takeAll s.trk.walk levels ≠ some (.completed body)) (first : Bool) :
    exec (.frameReceived levels first) s = .next s := by
  simp only [exec, execFrameReceived]
  split
  · rfl
  split
  · split
    · exact absurd ‹_› (h _)
    all_goals rfl
  · rfl

theorem exec_badFrame_unmet {s : State} {levels : List Level}
    (h : ∀ kind, s.rx.takeAll s.trk.walk levels ≠ some (.bad kind)) : exec (.badFrame levels) s = .next s := by
  simp only [exec, execBadFrame]
  split
  · rfl
  split
  · split
    · exact absurd ‹_› (h _)
    all_goals rfl
  · rfl

theorem exec_markEnd_unmet {s : State} (h : s.trk.inMark = false ∨ ∃ cursor, s.trk.walk = .opened cursor) :
    exec .markEnd s = .next s := by
  refine if_neg fun ⟨hmark, hclosed⟩ => ?_
  rcases h with hn | ⟨cursor, hopen⟩
  · exact absurd (hmark.symm.trans hn) (by decide)
  · exact s.trk.walk.notOpen_iff.mp hclosed cursor hopen

theorem Sender.startDue_iff (t : Sender) : t.startDue = true ↔ t.attempt = .idle ∧ t.kind ≠ none := by
  simp [Sender.startDue, Option.isSome_iff_ne_none]

theorem Sender.reaches_iff (t : Sender) (bit : Nat) : t.reaches bit = true ↔ t.attempt = .driving ∧ t.driven ≤ bit + 1 := by
  simp [Sender.reaches]

theorem exec_startBit_unmet {s : State} (h : s.ctl.station ≠ .active ∨ s.tx.attempt ≠ .idle ∨ s.tx.kind = none) (taken : Bool) :
    exec (.startBit taken) s = .next s := by
  refine if_neg fun ⟨hactive, hdue⟩ => ?_
  obtain ⟨hidle, hkind⟩ := s.tx.startDue_iff.mp hdue
  rcases h with hn | hn | hn
  · exact hn hactive
  · exact hn hidle
  · exact hkind hn

/-- A bit that is not driven now, or not at this level, brings neither collision nor fault (R94; log 19). -/
theorem Sender.not_reaches {t : Sender} {bit : Nat} {level : Level}
    (h : t.attempt ≠ .driving ∨ bit + 1 < t.driven ∨ t.line[bit]? ≠ some level) :
    ¬ (t.reaches bit = true ∧ t.line[bit]? = some level) := by
  rintro ⟨hreach, hbit⟩
  obtain ⟨hdrive, hle⟩ := (t.reaches_iff bit).mp hreach
  rcases h with hn | hn | hn
  · exact hn hdrive
  · exact absurd hn (Nat.not_lt.mpr hle)
  · exact hn hbit

theorem exec_inputAccepted_without_inputs {s : State} (h : s.inp = none) : exec .inputAccepted s = .next s := by
  have hexec : exec .inputAccepted s = execInputAccepted s := rfl
  rw [hexec, execInputAccepted, h]
  cases s.ldr.config with
  | none => rfl
  | some cfg => rfl

/-- Time moves nothing in the reset condition, in WAITING and in CONFIG_FAULT (log 2). -/
theorem State.clock_of_still {s : State}
    (h : s.power ≠ .running ∨ (s.ldr.config = none ∧ (s.ldr.phase = .waiting ∨ s.ldr.phase = .idle))) : s.clock = s := by
  by_cases hpower : s.power = .running
  · obtain ⟨hconfig, hphase⟩ := h.resolve_left fun hn => hn hpower
    rw [State.clock, if_neg fun hn => hn hpower, hconfig]
    rcases hphase with hphase | hphase <;> rw [hphase]
  · exact if_pos hpower

theorem step_of_pending_eq_nil {s : State} (h : s.pending = []) : step s = .next s.clock := by
  unfold step
  rw [h]

/-- Settles O3. -/
theorem unmetHappeningChangesNothing : Obligations.UnmetHappeningChangesNothing := by
  refine ⟨fun s => ⟨exec_resetNRising_running, fun _ => exec_readingComplete_unmet, exec_checkingComplete_unmet,
    exec_roundTimerExpiry_unmet, exec_markBegin_unmet, fun hmark => ?_, fun hr first levels => ?_, fun _ => exec_frameReceived_unmet,
    fun _ => exec_badFrame_unmet, exec_markEnd_unmet, exec_startBit_unmet, fun hdrive => if_neg hdrive,
    fun _ hn => if_neg (Sender.not_reaches hn), fun _ hn => if_neg (Sender.not_reaches hn), fun hst => if_neg hst,
    exec_inputAccepted_without_inputs⟩, fun s hqueue hstill => ?_, fun s sample hconfig => ?_⟩
  · have hrelease := State.releaseMark_of_none hmark
    exact ⟨congrArg Host.Outcome.next hrelease, congrArg Host.Outcome.next hrelease⟩
  · exact ⟨exec_markRecognised_unmet hr first, exec_frameReceived_silent hr levels first, exec_badFrame_silent hr levels,
      if_neg (by simp [hr])⟩
  · rw [step_of_pending_eq_nil hqueue, State.clock_of_still hstill]
  · have hexec : exec (.tick sample) s = execTick sample s := rfl
    rw [hexec, execTick, hconfig]

end Sys2Proof.Machine
end

section
/-! PROOFS of the statements on receptions that end and on an attempt taken over. -/

-- One proof after another, as in the sections above: every thread that elaborates a proof reserves a stack of its own.
set_option Elab.async false

namespace Sys2Proof.Machine

/-! ### A foreign frame complete at its end bit (R58–R62, R77, R78, R90) -/

/-- The part at the end bit of a completed reception: the receiver waits again, the latest level dominant (R72). -/
def State.heardOut (s : State) : State := { s with rx := { Receiver.fresh with prevRecessive := false } }

/-- A foreign frame counted, sorted and settled, in either order (R77, R78, R95). -/
theorem exec_frameReceived_foreign {s : State} {cfg : Configuration} {levels : List Level} {body : List Byte}
    (hc : s.ldr.config = some cfg) (hr : s.ctl.station.receives = true)
    (htake : s.rx.takeAll s.trk.walk levels = some (.completed body)) (hmark : s.rx.ownMark = false) (first : Bool) :
    exec (.frameReceived levels first) s = .next (s.heardOut.foreignFrame cfg s.receptionWalk body first) := by
  simp only [exec, execFrameReceived, hc, hr, htake, hmark, if_true]
  rfl

/-- Counting and sorting a frame takes over no attempt. -/
theorem State.countAndSort_attempt_ne (cfg : Configuration) (start : Walk) (v : Verdict) {s : State}
    (ha : s.tx.attempt ≠ .takenOver) : (s.countAndSort cfg start v).tx.attempt ≠ .takenOver := by
  unfold State.countAndSort
  split
  · cases v with
    | check | header => exact ha
    | valid kind h points =>
      cases start with
      | idle | closed => exact ha
      | opened cursor =>
        simp only [State.sortFrame]
        split
        · exact ha
        repeat' split
        all_goals exact State.handOn_attempt _ _ _ _ _ (by simpa using ha)
  · exact ha

/-- Without an attempt taken over a foreign frame is counted and sorted, and that is all (R77, R78). -/
theorem exec_frameReceived_of_ne {s : State} {cfg : Configuration} {levels : List Level} {body : List Byte}
    (hc : s.ldr.config = some cfg) (hr : s.ctl.station.receives = true)
    (htake : s.rx.takeAll s.trk.walk levels = some (.completed body)) (hmark : s.rx.ownMark = false)
    (ha : s.tx.attempt ≠ .takenOver) (first : Bool) :
    exec (.frameReceived levels first) s = .next (s.heardOut.countAndSort cfg s.receptionWalk (judge body)) := by
  rw [exec_frameReceived_foreign hc hr htake hmark]
  simp only [State.foreignFrame]
  rw [State.settleTakenOver_of_ne _ (s := s.heardOut) ha, State.settleTakenOver_of_ne, ite_self]
  exact State.countAndSort_attempt_ne cfg _ _ ha

/-- The part before a frame of station `n` is handed on: a forward slip, or a count where the frame is out of slot (R59–R62). -/
def State.sortedByCursor (cfg : Configuration) (cursor : Cursor) (n : StationNo) (s : State) : State :=
  if cursor = .slot n then s else if cursor.below n then s.slip cfg cursor n else s.count Counters.bumpOutOfSlot

theorem State.countAndSort_of_open_walk {cfg : Configuration} {h : Header} (hh : h.station ≤ cfg.high) (cursor : Cursor)
    (kind : FrameKind) (points : List Byte) (s : State) :
    s.countAndSort cfg (.opened cursor) (.valid kind h points) =
      ((s.count Counters.bumpGood).sortedByCursor cfg cursor h.station).handOn cfg kind h points := by
  simp only [State.countAndSort, Walk.counts, if_true, State.sortFrame, not_lt.mpr hh, if_false, State.sortedByCursor]
  repeat' split
  all_goals rfl

theorem Cursor.not_below_self (n : StationNo) : (Cursor.slot n).below n = false := decide_eq_false (lt_irrefl n)

theorem Cursor.below_of_below_of_le {cursor : Cursor} {m n : StationNo} (h : cursor.below m = true) (hle : m ≤ n) :
    cursor.below n = true := by
  cases cursor with
  | beforeZero => rfl
  | slot k => exact decide_eq_true (lt_of_lt_of_le (of_decide_eq_true h) hle)

/-- The cursor of the open walk that a frame of station `n` leaves (R54, R61). -/
theorem State.sortedByCursor_trk (cfg : Configuration) {cursor : Cursor} (n : StationNo) {s : State}
    (hopen : s.trk.walk = .opened cursor) :
    (s.sortedByCursor cfg cursor n).trk =
      { s.trk with walk := if cursor.below n then .opened (.slot n) else .opened cursor } := by
  have hstands : s.trk = { s.trk with walk := .opened cursor } := by rw [← hopen]
  unfold State.sortedByCursor
  split
  · rename_i hslot
    simpa [hslot, Cursor.not_below_self] using hslot ▸ hstands
  split
  · rename_i hbelow
    simp [RoundTracker.slipTo, hopen, hbelow]
  · rename_i hbelow
    simpa [hbelow] using hstands

/-- The counters that the sorting moves (R61, R62, R90). -/
theorem State.sortedByCursor_cnt (cfg : Configuration) (cursor : Cursor) (n : StationNo) (s : State)
    [Decidable (s.hadTurn cfg)] :
    (s.sortedByCursor cfg cursor n).cnt =
      { s.cnt with
        slips := if cursor.below n then bump16 s.cnt.slips else s.cnt.slips
        outOfSlot := if cursor.below n ∨ cursor = .slot n then s.cnt.outOfSlot else bump16 s.cnt.outOfSlot
        missedTurns :=
          if cursor.below cfg.own = true ∧ cfg.own ≤ n ∧ s.hadTurn cfg then bump16 s.cnt.missedTurns
          else s.cnt.missedTurns } := by
  have hmissed : cursor.below n = false → ¬ (cursor.below cfg.own = true ∧ cfg.own ≤ n ∧ s.hadTurn cfg) :=
    fun hn ⟨hown, hle, _⟩ => absurd (hn.symm.trans (Cursor.below_of_below_of_le hown hle)) (by decide)
  unfold State.sortedByCursor
  split
  · rename_i hslot
    have hn : cursor.below n = false := hslot ▸ Cursor.not_below_self n
    simp [hslot, Cursor.not_below_self, if_neg (hslot ▸ hmissed hn)]
  split
  · rename_i hslot hbelow
    have hturn : State.hadTurn (State.count Counters.bumpSlips { s with trk := s.trk.slipTo n }) cfg ↔ s.hadTurn cfg := by
      rcases s.trk.slipTo_cases n with he | ⟨_, _, _, he⟩ <;> rw [he] <;> exact Iff.rfl
    simp only [State.slip, hbelow, if_true, true_or]
    by_cases hpasses : cursor.below cfg.own ∧ cfg.own ≤ n
    · by_cases hhad : s.hadTurn cfg
      · rw [if_pos hpasses, State.passedUnopened_of_turn (hturn.mpr hhad), if_pos ⟨hpasses.1, hpasses.2, hhad⟩]
        rfl
      · rw [if_pos hpasses, State.passedUnopened_of_no_turn (mt hturn.mp hhad), if_neg fun hall => hhad hall.2.2]
        rfl
    · rw [if_neg hpasses, if_neg fun hall => hpasses ⟨hall.1, hall.2.1⟩]
      rfl
  · rename_i hslot hbelow
    rw [if_neg (not_or.mpr ⟨hbelow, hslot⟩), if_neg (hmissed (Bool.eq_false_iff.mpr hbelow))]
    rfl

/-- Handing a frame on moves the count of repeats at most (R59, R82). -/
theorem State.handOn_cnt (cfg : Configuration) (kind : FrameKind) (h : Header) (points : List Byte) (s : State) :
    ∃ repeats, (s.handOn cfg kind h points).cnt = { s.cnt with repeats := repeats } := by
  unfold State.handOn
  split
  · exact ⟨s.cnt.repeats, State.sighting_cnt ..⟩
  · cases kind with
    | leave => exact ⟨s.cnt.repeats, State.peerLeave_cnt ..⟩
    | data =>
      rcases State.peerData_cases h points s with ⟨_, hp⟩ | ⟨_, _, hp⟩
      · exact ⟨bump16 s.cnt.repeats, congrArg State.cnt hp⟩
      · exact ⟨s.cnt.repeats, by rw [hp, State.refreshRecord_cnt]⟩

/-- Settles O36. -/
theorem sortingMovesCursorOnlyBySlip : Obligations.SortingMovesCursorOnlyBySlip := by
  intro s cfg levels first cursor body kind h points hears hj hh
  obtain ⟨hc, hr, htake, hmark, hwalk, hopen, ha⟩ := hears
  classical
  have hexec := exec_frameReceived_of_ne hc hr htake hmark ha first
  rw [hwalk, hj, State.countAndSort_of_open_walk hh] at hexec
  have htrk := State.sortedByCursor_trk cfg h.station (s := s.heardOut.count Counters.bumpGood) hopen
  have hsorted := State.sortedByCursor_cnt cfg cursor h.station (s.heardOut.count Counters.bumpGood)
  obtain ⟨repeats, hcnt⟩ :=
    State.handOn_cnt cfg kind h points ((s.heardOut.count Counters.bumpGood).sortedByCursor cfg cursor h.station)
  rw [hsorted] at hcnt
  refine ⟨_, hexec, ?_, ?_, ?_, ?_, ?_, fun hturn => ?_, fun hturn => ?_⟩
  · rw [State.handOn_trk, htrk]
    rfl
  · rw [State.handOn_rx, State.sortedByCursor]
    repeat' split
    all_goals simp [State.heardOut]
  · rw [hcnt]
    rfl
  · rw [hcnt]
    rfl
  · rw [hcnt]
    rfl
  · rw [hcnt]
    exact if_pos hturn
  · rw [hcnt]
    exact if_neg hturn

/-! ### Receptions that end before their check (R73–R76) -/

theorem Receiver.takeAll_singleton_of_bad {walk : Walk} {r : Receiver} {b : Level} {kind : BadKind}
    (h : r.take walk b = .bad kind) : r.takeAll walk [b] = some (.bad kind) := by
  rw [Receiver.takeAll, h]
  rfl

theorem Receiver.takeAll_singleton_of_dropped {walk : Walk} {r : Receiver} {b : Level} (h : r.take walk b = .dropped) :
    r.takeAll walk [b] = some .dropped := by
  rw [Receiver.takeAll, h]
  rfl

/-- A fifth equal recessive bit is SHORT (R74). -/
theorem Receiver.take_fifthRecessive {r : Receiver} (hr : r.state = .receiving) (hrun : r.runLength = 4)
    (hlevel : r.level = recessive) (walk : Walk) : r.take walk recessive = .bad .short := by
  simp only [Receiver.take, hr, hrun, hlevel]
  rfl

/-- The receiver held over a dominant run of `n` bits (R75). -/
def Receiver.heldAt (n : Nat) (r : Receiver) : Receiver :=
  { r with state := .held, runLength := n, prevRecessive := dominant }

/-- A fifth equal dominant bit holds the reception (R75). -/
theorem Receiver.take_fifthDominant {r : Receiver} (hr : r.state = .receiving) (hrun : r.runLength = 4)
    (hlevel : r.level = dominant) (walk : Walk) : r.take walk dominant = .more (r.heldAt 5) := by
  simp only [Receiver.take, Receiver.heldAt, hr, hrun, hlevel]
  rfl

theorem Receiver.take_heldDominant (n : Nat) (r : Receiver) (walk : Walk) :
    (r.heldAt n).take walk dominant = if 10 ≤ n + 1 then .dropped else .more (r.heldAt (n + 1)) := rfl

/-- The first recessive bit tells what a held run was (R74, R75). -/
theorem Receiver.take_heldRecessive (n : Nat) (r : Receiver) (walk : Walk) :
    (r.heldAt n).take walk recessive = .bad (if n = 5 then .stuff else .disturbed) := rfl

/-- A held run grows up to 9 bits (R75). -/
theorem Receiver.takeAll_heldRun {n k : Nat} (hk : n + k < 10) (r : Receiver) (walk : Walk) (levels : List Level) :
    (r.heldAt n).takeAll walk (List.replicate k dominant ++ levels) = (r.heldAt (n + k)).takeAll walk levels := by
  induction k generalizing n with
  | zero => rfl
  | succ k ih =>
    have htake : (r.heldAt n).take walk dominant = .more (r.heldAt (n + 1)) := by
      rw [Receiver.take_heldDominant, if_neg (by omega)]
    rw [List.replicate_succ, List.cons_append, Receiver.takeAll_cons_of_more htake, ih (by omega)]
    congr 2
    omega

/-- A dominant run behind four dominant bits, up to 9 bits in all (R75). -/
theorem Receiver.takeAll_dominantRun {r : Receiver} (hr : r.state = .receiving) (hrun : r.runLength = 4)
    (hlevel : r.level = dominant) {more : Nat} (hmore : 1 ≤ more) (hfew : more ≤ 5) (walk : Walk) (levels : List Level) :
    r.takeAll walk (List.replicate more dominant ++ levels) = (r.heldAt (4 + more)).takeAll walk levels := by
  obtain ⟨k, rfl⟩ : ∃ k, more = k + 1 := ⟨more - 1, by omega⟩
  rw [List.replicate_succ, List.cons_append,
    Receiver.takeAll_cons_of_more (Receiver.take_fifthDominant hr hrun hlevel walk), Receiver.takeAll_heldRun (by omega)]
  congr 2
  omega

/-- A recessive bit at the end-bit position is FRAMING (R73, R76). -/
theorem Receiver.take_endBitRecessive {r : Receiver} {n : Nat} (hr : r.state = .receiving) (hrun : r.runLength ≠ 4)
    (hn : expectedBits r.bits = some n) (hall : n ≤ r.bits.length) (walk : Walk) :
    r.take walk recessive = .bad .framing := by
  have hdone : r.bodyDone = true := by
    rw [Receiver.bodyDone, hn]
    exact decide_eq_true hall
  rw [Receiver.take, hr]
  exact (if_neg hrun).trans (if_pos hdone)

/-! ### Bad and discarded frames (R58, R60, R76–R79) -/

/-- A bad frame is counted under the walk at its start bit, and loses an attempt taken over (R76–R78, R95). -/
theorem exec_badFrame {s : State} {cfg : Configuration} {levels : List Level} {kind : BadKind}
    (hc : s.ldr.config = some cfg) (hr : s.ctl.station.receives = true)
    (htake : s.rx.takeAll s.trk.walk levels = some (.bad kind)) :
    exec (.badFrame levels) s =
      .next (State.settleTakenOver false
        { s with
          rx := { Receiver.fresh with prevRecessive := true }
          cnt := if s.receptionWalk = .idle then s.cnt else s.cnt.bumpBad kind }) := by
  simp only [exec, execBadFrame, hc, hr, htake, if_true]
  cases s.receptionWalk with
  | idle | closed | opened => rfl

/-- A frame with the own mark is discarded (R79). -/
theorem exec_frameReceived_ownMark {s : State} {cfg : Configuration} {levels : List Level} {body : List Byte}
    (hc : s.ldr.config = some cfg) (hr : s.ctl.station.receives = true)
    (htake : s.rx.takeAll s.trk.walk levels = some (.completed body)) (hmark : s.rx.ownMark = true) (first : Bool) :
    exec (.frameReceived levels first) s = .next s.heardOut := by
  simp only [exec, execFrameReceived, hc, hr, htake, hmark, if_true]
  rfl

/-- A frame heard with no attempt waiting on it is counted and sorted (R77, R78). -/
theorem exec_frameReceived_of_heard {s : State} {cfg : Configuration} {levels : List Level} {walk : Walk} {body : List Byte}
    (hears : s.hears cfg levels walk body) (first : Bool) :
    exec (.frameReceived levels first) s = .next (s.heardOut.countAndSort cfg walk (judge body)) := by
  obtain ⟨hc, hr, htake, hmark, hwalk, -, ha⟩ := hears
  rw [exec_frameReceived_of_ne hc hr htake hmark ha, hwalk]

theorem Walk.counts_of_ne_idle {walk : Walk} (h : walk ≠ .idle) : walk.counts = true := by
  cases walk with
  | idle => exact absurd rfl h
  | opened | closed => rfl

theorem State.countAndSort_check {walk : Walk} (h : walk ≠ .idle) (cfg : Configuration) (s : State) :
    s.countAndSort cfg walk .check = s.count Counters.bumpBadCheck := if_pos (Walk.counts_of_ne_idle h)

theorem State.countAndSort_header {walk : Walk} (h : walk ≠ .idle) (cfg : Configuration) (s : State) :
    s.countAndSort cfg walk .header = s.count Counters.bumpBadHeader := if_pos (Walk.counts_of_ne_idle h)

/-- A frame of a number beyond the walk is only counted (R60). -/
theorem State.countAndSort_beyondWalk {cfg : Configuration} {h : Header} (hh : cfg.high < h.station) (cursor : Cursor)
    (kind : FrameKind) (points : List Byte) (s : State) :
    s.countAndSort cfg (.opened cursor) (.valid kind h points) =
      (s.count Counters.bumpGood).count Counters.bumpBeyondWalk := if_pos hh

/-- Settles O34. -/
theorem badAndDiscardedFramesOnlyCount : Obligations.BadAndDiscardedFramesOnlyCount := by
  refine ⟨fun r walk hr hrun => ⟨fun hlevel => Receiver.take_fifthRecessive hr hrun hlevel walk,
      fun hlevel more => ⟨fun h1 => ?_, fun h2 h5 => ?_, fun h6 => ?_⟩⟩,
    fun r walk n hr hrun hn hall => Receiver.take_endBitRecessive hr (Nat.ne_of_lt hrun) hn hall walk,
    fun s cfg levels kind hc hr htake ha => ?_, fun s cfg levels first walk body => ⟨?_, fun hears => ?_⟩⟩
  · subst h1
    rw [Receiver.takeAll_dominantRun hr hrun hlevel (by omega) (by omega)]
    exact Receiver.takeAll_singleton_of_bad (Receiver.take_heldRecessive 5 r walk)
  · rw [Receiver.takeAll_dominantRun hr hrun hlevel (by omega) h5]
    exact Receiver.takeAll_singleton_of_bad
      ((Receiver.take_heldRecessive (4 + more) r walk).trans (by rw [if_neg (by omega)]))
  · subst h6
    rw [List.replicate_succ', Receiver.takeAll_dominantRun hr hrun hlevel (by omega) (by omega)]
    exact Receiver.takeAll_singleton_of_dropped (Receiver.take_heldDominant 9 r walk)
  · refine ⟨_, (exec_badFrame hc hr htake).trans (congrArg _ (State.settleTakenOver_of_ne _ ha)), rfl,
      fun hidle => if_pos hidle, fun hcounts => ⟨?_, ?_, ?_, ?_⟩⟩
    all_goals
      rintro rfl
      exact if_neg hcounts
  · exact fun hc hr htake hmark => exec_frameReceived_ownMark hc hr htake hmark first
  · have hexec := exec_frameReceived_of_heard hears first
    refine ⟨?_, fun hcounts => ⟨fun hj => ?_, fun hj => ?_, fun kind h points hj => ⟨?_, fun hopen hh => ?_⟩⟩⟩
    · rintro rfl
      exact hexec
    · rw [hexec, hj, State.countAndSort_check hcounts]
      rfl
    · rw [hexec, hj, State.countAndSort_header hcounts]
      rfl
    · rintro rfl
      rw [hexec, hj]
      rfl
    · rw [hexec, hj]
      cases walk with
      | idle => exact absurd rfl hcounts
      | closed => exact absurd rfl hopen
      | opened cursor =>
        rw [State.countAndSort_beyondWalk hh]
        rfl

/-! ### An attempt taken over is settled (R56, R75, R78, R79, R95, R97) -/

theorem State.settleTakenOver_own {s : State} (h : s.tx.attempt = .takenOver) :
    s.settleTakenOver true = { s with tx := s.tx.settle } := if_pos h

theorem State.settleTakenOver_lost {s : State} (h : s.tx.attempt = .takenOver) : s.settleTakenOver false = s.attemptLost :=
  if_pos h

/-- A sighting abandons an attempt, or leaves the sender as it was (R103, R113). -/
theorem State.sighting_tx (cfg : Configuration) (kind : FrameKind) (h : Header) (s : State) :
    (s.sighting cfg kind h).tx = s.tx ∨ (s.sighting cfg kind h).tx = s.tx.settle := by
  unfold State.sighting
  rcases State.noteSighting_cases (s.setMember cfg.own ((s.member cfg.own).sighted kind h.cadence)) with
    ⟨_, hs⟩ | ⟨_, _, _, hs⟩
  · exact .inr (by rw [hs, State.enter_tx]; rfl)
  · exact .inl (by rw [hs]; rfl)

/-- A frame of a peer that is handed on leaves the sender as it was. -/
theorem State.handOn_tx_of_peer {cfg : Configuration} {h : Header} (hn : h.station ≠ cfg.own) (kind : FrameKind)
    (points : List Byte) (s : State) : (s.handOn cfg kind h points).tx = s.tx := by
  cases kind with
  | data => rw [State.handOn_data hn, State.peerData_tx]
  | leave => rw [State.handOn_leave hn, State.peerLeave_tx]

/-- A frame that is counted and sorted abandons an attempt by a sighting at most, so one that is not of the own number leaves the
sender as it was (R103, R113). -/
theorem State.countAndSort_tx (cfg : Configuration) (start : Walk) (v : Verdict) (s : State) :
    (s.countAndSort cfg start v).tx = s.tx ∨
      v.ownNumber cfg = true ∧ (s.countAndSort cfg start v).tx = s.tx.settle := by
  unfold State.countAndSort
  split
  · cases v with
    | check | header => exact .inl rfl
    | valid kind h points =>
      cases start with
      | idle | closed => exact .inl rfl
      | opened cursor =>
        have hhandOn (u : State) (hu : u.tx = s.tx) : (u.handOn cfg kind h points).tx = s.tx ∨
            decide (h.station = cfg.own) = true ∧ (u.handOn cfg kind h points).tx = s.tx.settle := by
          by_cases hn : h.station = cfg.own
          · rw [State.handOn_own hn, ← hu]
            exact (State.sighting_tx cfg kind h u).imp_right fun hs => ⟨decide_eq_true hn, hs⟩
          · exact .inl ((State.handOn_tx_of_peer hn kind points u).trans hu)
        simp only [State.sortFrame]
        split
        · exact .inl rfl
        repeat' split
        all_goals exact hhandOn _ (by simp)
  · exact .inl rfl

theorem Verdict.ownNumber_eq_true {cfg : Configuration} {v : Verdict}
    (h : ∃ kind h points, v = .valid kind h points ∧ h.station = cfg.own) : v.ownNumber cfg = true := by
  obtain ⟨kind, h, points, rfl, hn⟩ := h
  exact decide_eq_true hn

theorem Verdict.ownNumber_eq_false {cfg : Configuration} {v : Verdict}
    (h : ∀ kind h points, v = .valid kind h points → h.station ≠ cfg.own) : v.ownNumber cfg = false := by
  cases v with
  | check | header => rfl
  | valid kind hd points => exact decide_eq_false (h kind hd points rfl)

/-- A frame of the own number settles the attempt it took over, whether or not its sighting has abandoned it already (R95, R113). -/
theorem State.settleTakenOver_countAndSort {cfg : Configuration} {v : Verdict} {s : State} (ha : s.tx.attempt = .takenOver)
    (start : Walk) :
    (s.countAndSort cfg start v).settleTakenOver true = { s.countAndSort cfg start v with tx := s.tx.settle } := by
  rcases State.countAndSort_tx cfg start v s with htx | ⟨-, htx⟩
  · rw [State.settleTakenOver_own (by rw [htx]; exact ha), htx]
  · rw [State.settleTakenOver_of_ne _ (by rw [htx]; exact nofun), ← htx]

theorem State.attemptLost_notOpen {s : State} (h : ∀ cursor, s.trk.walk ≠ .opened cursor) (cursor : Cursor) :
    s.attemptLost.trk.walk ≠ .opened cursor := by
  rw [State.attemptLost_walk]
  exact h cursor

/-- In ACTIVE the close work leaves sender and controller as they were (R111). -/
theorem State.controlAtClose_active (cfg : Configuration) {s : State} (h : s.ctl.station = .active) : s.controlAtClose cfg = s :=
  State.controlAtClose_elsewhere cfg (fun _ hl => nomatch h.symm.trans hl) fun hd => nomatch h.symm.trans hd

theorem State.closeWork_tx_active (cfg : Configuration) (cut : Option Cursor) {s : State} (h : s.ctl.station = .active) :
    (s.closeWork cfg cut).tx = s.tx := by
  rw [State.closeWork_tx, State.controlAtClose_active cfg (by simpa using h), State.evaluatedAtClose_tx]

/-- A cut whose cursor has reached the own number misses no turn (R56, R90). -/
theorem State.cutIfOpen_of_reached {cfg : Configuration} {s : State} {cursor : Cursor} (hopen : s.trk.walk = .opened cursor)
    (hown : cursor.below cfg.own = false) : s.cutIfOpen cfg = s.cutWalk.closeWork cfg (some cursor) := by
  rw [State.cutIfOpen_of_opened hopen, hown]
  rfl

/-- A mark that drops the reception of an attempt taken over and cuts the walk: loss and cut in either order (R97). -/
theorem exec_markRecognised_of_takenOver {s : State} {cfg : Configuration} {cursor : Cursor} (hc : s.ldr.config = some cfg)
    (hactive : s.ctl.station = .active) (ha : s.tx.attempt = .takenOver) (hopen : s.trk.walk = .opened cursor)
    (hown : cursor.below cfg.own = false) :
    exec (.markRecognised true) s = .next (s.marked.attemptLost.cutWalk.closeWork cfg (some cursor)) ∧
      exec (.markRecognised false) s = .next (s.marked.cutWalk.closeWork cfg (some cursor)).attemptLost := by
  have hr : s.ctl.station.receives = true := by rw [hactive]; rfl
  have hlost : s.marked.attemptLost.trk.walk = .opened cursor := (State.attemptLost_walk _).trans hopen
  have hcut : (s.marked.cutWalk.closeWork cfg (some cursor)).tx.attempt = .takenOver := by
    rw [State.closeWork_tx_active cfg _ (s := s.marked.cutWalk) hactive]
    exact ha
  refine ⟨(exec_markRecognised hc hr true).trans ?_, (exec_markRecognised hc hr false).trans ?_⟩
  · rw [if_pos rfl, State.loseUnderMark_of_takenOver (s := s.marked) ha, State.cutIfOpen_of_reached hlost hown]
  · rw [if_neg Bool.false_ne_true, State.cutIfOpen_of_reached (s := s.marked) hopen hown,
      State.loseUnderMark_of_takenOver hcut]

/-- Settles O31. -/
theorem takenOverAttemptIsSettled : Obligations.TakenOverAttemptIsSettled := by
  intro s cfg hc hr ha
  refine ⟨fun levels body hmark htake => ⟨fun hown => ⟨?_, ?_⟩, fun hother => ⟨?_, ?_⟩⟩, fun levels kind htake => ?_,
    fun hclosed first => ?_, fun cursor hopen hactive hreached => exec_markRecognised_of_takenOver hc hactive ha hopen hreached⟩
  · have hsettled := State.settleTakenOver_countAndSort (s := s.heardOut) ha s.receptionWalk (cfg := cfg) (v := judge body)
    have hexec := exec_frameReceived_foreign hc hr htake hmark false
    simp only [State.foreignFrame, if_neg Bool.false_ne_true, Verdict.ownNumber_eq_true hown, hsettled] at hexec
    exact ⟨_, hexec, rfl, rfl⟩
  · rw [exec_frameReceived_foreign hc hr htake hmark]
    simp only [State.foreignFrame, Verdict.ownNumber_eq_true hown, if_true]
    rw [State.settleTakenOver_own (s := s.heardOut) ha]
    rfl
  · have htx : (s.heardOut.countAndSort cfg s.receptionWalk (judge body)).tx = s.tx :=
      (State.countAndSort_tx ..).resolve_right fun h => nomatch h.1.symm.trans (Verdict.ownNumber_eq_false hother)
    rw [exec_frameReceived_foreign hc hr htake hmark]
    simp only [State.foreignFrame, Verdict.ownNumber_eq_false hother, if_neg Bool.false_ne_true]
    rw [State.settleTakenOver_lost (by rw [htx]; exact ha)]
    rfl
  · rw [exec_frameReceived_foreign hc hr htake hmark]
    simp only [State.foreignFrame, Verdict.ownNumber_eq_false hother, if_true]
    rw [State.settleTakenOver_lost (s := s.heardOut) ha]
    rfl
  · rw [exec_badFrame hc hr htake, State.settleTakenOver_lost (by exact ha)]
  · rw [exec_markRecognised hc hr, State.cutIfOpen_of_notOpen (s := s.marked) hclosed,
      State.loseUnderMark_of_takenOver (s := s.marked) ha,
      State.cutIfOpen_of_notOpen (State.attemptLost_notOpen (s := s.marked) hclosed),
      ite_self]
    rfl

/-! ### A loss and the cut at one mark, in both orders (R97) -/

/-- What a close reads of the state it finds: the image, the terms, the inputs and their latest tick (R7, R30, R131). -/
structure State.SameStores (s u : State) : Prop where
  img : u.img = s.img
  eng : u.eng = s.eng
  inp : u.inp = s.inp
  within : u.within = s.within

section
variable {s u : State} (h : s.SameStores u)
include h

theorem State.SameStores.takeWithin_img (cfg : Configuration) : (u.takeWithin cfg).img = (s.takeWithin cfg).img := by
  unfold State.takeWithin
  rw [h.within, h.inp]
  split
  · simp only [State.takeLevels, h.img]
  all_goals exact h.img

theorem State.SameStores.agedAndRepacked (cfg : Configuration) (cut : Option Cursor) :
    ((u.ageAll cfg cut).repackIfDue cfg).img = ((s.ageAll cfg cut).repackIfDue cfg).img := by
  have hage : (u.ageAll cfg cut).img = (s.ageAll cfg cut).img := by rw [State.ageAll_img, State.ageAll_img, h.img]
  unfold State.repackIfDue
  rw [State.repackDue_congr cfg (s := s.ageAll cfg cut) (u := u.ageAll cfg cut) (by rw [hage])]
  split
  · rw [State.repack_img, State.repack_img, hage]
  · exact hage

theorem State.SameStores.closeWork_eng (cfg : Configuration) (cut : Option Cursor) :
    (u.closeWork cfg cut).eng = (s.closeWork cfg cut).eng := by
  have hterms : (u.closeWork cfg cut).eng.terms = (s.closeWork cfg cut).eng.terms := by
    rw [State.closeWork_terms, State.closeWork_terms, State.imageAtEvaluation_eq, State.imageAtEvaluation_eq,
      h.takeWithin_img, h.agedAndRepacked, h.img, h.eng]
  have hstale : (u.closeWork cfg cut).eng.stale = (s.closeWork cfg cut).eng.stale := by
    rw [State.closeWork_stale, State.closeWork_stale, hterms]
  exact congrArg₂ TermEngine.mk hterms hstale

theorem State.SameStores.closeWork_img (cfg : Configuration) (cut : Option Cursor) :
    (u.closeWork cfg cut).img = (s.closeWork cfg cut).img := by
  rw [State.closeWork_img_eq, State.closeWork_img_eq cfg cut s, h.agedAndRepacked, State.closeWork_own, State.closeWork_own,
    h.takeWithin_img, h.closeWork_eng]

end

/-- A staged copy that no transaction has taken is skipped (R161). -/
theorem State.stageCopy_skips (s : State) :
    s.stageCopy.cnt = if s.tap.trans ≠ .idle ∧ s.tap.staged ≠ none then s.cnt.bumpSkippedCopies else s.cnt := by
  unfold State.stageCopy
  cases s.tap.trans with
  | idle => rfl
  | opened o =>
    cases s.tap.staged with
    | none => rfl
    | some c => rfl

/-- A close moves the count of skipped copies, and that by the tap's transaction and staged copy alone (R161). -/
theorem State.closeWork_skips (cfg : Configuration) (cut : Option Cursor) (s : State) :
    (s.closeWork cfg cut).cnt =
      if s.tap.trans ≠ .idle ∧ s.tap.staged ≠ none then s.cnt.bumpSkippedCopies else s.cnt := by
  rw [State.closeWork_eq_stageCopy, State.stageCopy_skips]
  simp [State.beforeCopy]

/-! ### What a lost attempt makes of each block (R97, R98, R119) -/

theorem State.attemptLost_cnt (s : State) : s.attemptLost.cnt = s.cnt.bumpAttemptsLost := by
  simp only [State.attemptLost]
  repeat' split
  all_goals simp

@[simp] theorem State.attemptLost_trans (s : State) : s.attemptLost.tap.trans = s.tap.trans := by
  simp only [State.attemptLost]
  repeat' split
  all_goals simp

@[simp] theorem State.attemptLost_staged (s : State) : s.attemptLost.tap.staged = s.tap.staged := by
  simp only [State.attemptLost]
  repeat' split
  all_goals simp

theorem State.attemptLost_held (s : State) : s.attemptLost.drv.held = s.drv.held := by
  simp only [State.attemptLost]
  repeat' split
  all_goals simp

/-- What a lost attempt makes of the sender is a matter of the sender alone (R97). -/
theorem State.attemptLost_tx_congr {s u : State} (htx : u.tx = s.tx) : u.attemptLost.tx = s.attemptLost.tx := by
  simp only [State.attemptLost, htx]
  repeat' split
  all_goals simp [State.enterTxFault]

/-- What a lost attempt makes of the controller is a matter of sender and controller (R98, R119). -/
theorem State.attemptLost_ctl_congr {s u : State} (htx : u.tx = s.tx) (hctl : u.ctl = s.ctl) :
    u.attemptLost.ctl = s.attemptLost.ctl := by
  simp only [State.attemptLost, htx]
  repeat' split
  all_goals simp [State.enterTxFault, hctl]

/-- A lost attempt leaves the walk, and what it makes of the timer is no matter of the walk (R119). -/
theorem State.attemptLost_trk_congr {s u : State} (htx : u.tx = s.tx) (htrk : u.trk = { s.trk with walk := u.trk.walk }) :
    u.attemptLost.trk = { s.attemptLost.trk with walk := u.trk.walk } := by
  simp only [State.attemptLost, htx]
  repeat' split
  · simp only [State.enterTxFault, State.enter_trk, State.count_trk, RoundTracker.stopTimer]
    rw [htrk]
  · simpa using htrk
  · exact htrk

/-- The outputs stand at the levels of station and held values (R136). -/
def State.OutputsFollow (s : State) : Prop := s.drv.levels = outputLevels s.ctl.station s.ldr.config s.drv.held

/-- A lost attempt leaves the outputs following station and held values (R136, R139). -/
theorem State.OutputsFollow.attemptLost {s : State} (h : s.OutputsFollow) : s.attemptLost.OutputsFollow := by
  simp only [State.attemptLost, State.OutputsFollow]
  repeat' split
  · simp
  · simp
  · exact h

theorem State.closeWork_outputsFollow (cfg : Configuration) (cut : Option Cursor) (s : State) :
    (s.closeWork cfg cut).OutputsFollow := by
  rw [State.OutputsFollow, State.closeWork_levels, State.closeWork_ldr]

/-- The outputs of two parts that follow station and held values agree where these do (R136). -/
theorem State.OutputsFollow.drv_congr {s u : State} (hs : s.OutputsFollow) (hu : u.OutputsFollow) (hctl : u.ctl = s.ctl)
    (hldr : u.ldr = s.ldr) (hheld : u.drv.held = s.drv.held) : u.drv = s.drv := by
  have hlevels : u.drv.levels = s.drv.levels := by rw [hs, hu, hctl, hldr, hheld]
  exact congrArg₂ OutputDriver.mk hheld hlevels

/-- A lost attempt in ACTIVE leaves a station whose part in a close is none (R97, R111, R119). -/
theorem State.controlAtClose_of_lost (cfg : Configuration) {s u : State} (h : s.ctl.station = .active)
    (hu : u.ctl.station = s.attemptLost.ctl.station) : u.controlAtClose cfg = u := by
  rcases s.attemptLost_station with hst | hst | hst <;> rw [hst] at hu
  · exact State.controlAtClose_active cfg (hu.trans h)
  all_goals
    exact State.controlAtClose_elsewhere cfg (fun _ hl => nomatch hu.symm.trans hl) fun hd => nomatch hu.symm.trans hd

theorem State.attemptLost_cutWalk_cnt (s : State) : s.attemptLost.cutWalk.cnt = s.cutWalk.cnt.bumpAttemptsLost := by
  rw [State.cutWalk, State.attemptLost_cnt]
  rfl

/-- The close work finds the same image, terms and inputs before and after a loss. -/
theorem State.sameStores_attemptLost (s : State) : s.cutWalk.SameStores s.attemptLost.cutWalk :=
  ⟨s.attemptLost_img, s.attemptLost_eng, s.attemptLost_inp, s.attemptLost_within⟩

/-- Counters after a loss and the cut, in either order (R97). -/
theorem State.loss_cut_cnt (cfg : Configuration) (cut : Option Cursor) (s : State) :
    (s.attemptLost.cutWalk.closeWork cfg cut).cnt = (s.cutWalk.closeWork cfg cut).attemptLost.cnt := by
  have htrans : s.attemptLost.cutWalk.tap.trans = s.cutWalk.tap.trans := s.attemptLost_trans
  have hstaged : s.attemptLost.cutWalk.tap.staged = s.cutWalk.tap.staged := s.attemptLost_staged
  rw [State.attemptLost_cnt, State.closeWork_skips, State.closeWork_skips, htrans, hstaged, State.attemptLost_cutWalk_cnt]
  split
  all_goals rfl

section
variable (cfg : Configuration) (cut : Option Cursor) {s : State} (hactive : s.ctl.station = .active)
include hactive

theorem State.cutWalk_closeWork_control :
    (s.cutWalk.closeWork cfg cut).tx = s.tx ∧ (s.cutWalk.closeWork cfg cut).ctl = s.ctl := by
  have hcontrol := State.controlAtClose_active cfg (s := s.cutWalk.evaluatedAtClose cfg cut)
    (by rw [State.evaluatedAtClose_ctl]; exact hactive)
  rw [State.closeWork_tx, State.closeWork_ctl, hcontrol, State.evaluatedAtClose_tx, State.evaluatedAtClose_ctl]
  exact ⟨rfl, rfl⟩

theorem State.lost_cutWalk_closeWork_control :
    (s.attemptLost.cutWalk.closeWork cfg cut).tx = s.attemptLost.tx ∧
      (s.attemptLost.cutWalk.closeWork cfg cut).ctl = s.attemptLost.ctl := by
  have hcontrol := State.controlAtClose_of_lost cfg (u := s.attemptLost.cutWalk.evaluatedAtClose cfg cut) hactive
    (by rw [State.evaluatedAtClose_ctl]; rfl)
  rw [State.closeWork_tx, State.closeWork_ctl, hcontrol, State.evaluatedAtClose_tx, State.evaluatedAtClose_ctl]
  exact ⟨rfl, rfl⟩

/-- Sender and controller after a loss and the cut, in either order (R97). -/
theorem State.loss_cut_control :
    (s.attemptLost.cutWalk.closeWork cfg cut).tx = (s.cutWalk.closeWork cfg cut).attemptLost.tx ∧
      (s.attemptLost.cutWalk.closeWork cfg cut).ctl = (s.cutWalk.closeWork cfg cut).attemptLost.ctl := by
  obtain ⟨htx, hctl⟩ := State.cutWalk_closeWork_control cfg cut hactive
  obtain ⟨hlostTx, hlostCtl⟩ := State.lost_cutWalk_closeWork_control cfg cut hactive
  exact ⟨hlostTx.trans (State.attemptLost_tx_congr htx).symm, hlostCtl.trans (State.attemptLost_ctl_congr htx hctl).symm⟩

/-- Walk, timer and round count after a loss and the cut, in either order (R97). -/
theorem State.loss_cut_trk :
    (s.attemptLost.cutWalk.closeWork cfg cut).trk = (s.cutWalk.closeWork cfg cut).attemptLost.trk := by
  have hkept : (s.cutWalk.closeWork cfg cut).trk = { s.trk with walk := .closed } := State.closeWork_trk ..
  have hcongr := State.attemptLost_trk_congr (s := s) (u := s.cutWalk.closeWork cfg cut)
    (State.cutWalk_closeWork_control cfg cut hactive).1 (by rw [hkept])
  rw [hcongr, hkept, State.closeWork_trk]
  rfl

/-- Held values and output levels after a loss and the cut, in either order (R97, R136). -/
theorem State.loss_cut_drv :
    (s.attemptLost.cutWalk.closeWork cfg cut).drv = (s.cutWalk.closeWork cfg cut).attemptLost.drv := by
  refine (State.closeWork_outputsFollow cfg cut s.cutWalk).attemptLost.drv_congr
    (State.closeWork_outputsFollow cfg cut s.attemptLost.cutWalk) (State.loss_cut_control cfg cut hactive).2 ?_ ?_
  · rw [State.attemptLost_ldr, State.closeWork_ldr, State.closeWork_ldr]
    exact s.attemptLost_ldr
  · rw [State.attemptLost_held, State.closeWork_held, State.closeWork_held, s.sameStores_attemptLost.closeWork_eng]

end

/-- Settles O32. -/
theorem lossAndCutReachSameState : Obligations.LossAndCutReachSameState := by
  intro s cfg cursor hc hactive hopen hown ha
  obtain ⟨hfirst, hlast⟩ := exec_markRecognised_of_takenOver hc hactive ha hopen hown
  have hstores := s.marked.sameStores_attemptLost
  have hmarked : s.marked.ctl.station = .active := hactive
  obtain ⟨htx, hctl⟩ := State.loss_cut_control cfg (some cursor) hmarked
  exact ⟨_, _, hfirst, hlast, (hstores.closeWork_img cfg _).trans (State.attemptLost_img _).symm,
    (hstores.closeWork_eng cfg _).trans (State.attemptLost_eng _).symm, State.loss_cut_cnt cfg _ _,
    State.loss_cut_drv cfg _ hmarked, htx, hctl, State.loss_cut_trk cfg _ hmarked⟩


end Sys2Proof.Machine
end

section
/-! PROOFS of the statement on the time of a bit. -/

-- One proof after another, as in the sections above: every thread that elaborates a proof reserves a stack of its own.
set_option Elab.async false

namespace Sys2Proof.Machine

/-! ### What one bit time reports (R45–R50, R57, R72, R93, R94, R125) -/

/-- The part of a bit time that reports a happening. -/
inductive BitPart
  | contacts
  | receiver
  | line
  | driving

/-- The part of a bit time that reports this happening; `none` for what no bit time reports. -/
def BitPart.of : Instr → Option BitPart
  | .tick _ | .inputAccepted => some .contacts
  | .frameReceived .. | .badFrame _ => some .receiver
  | .markRecognised _ | .stuck | .markEnd | .slotBoundary | .lineClear => some .line
  | .markFailed | .markRelease | .startBit _ | .collision _ | .transceiverFault _ | .attemptSent => some .driving
  | _ => none

/-- What the line brings in the next bit time. -/
def State.nextBit (s : State) : LineBit := s.lineIn.headD quietBit

/-- The run with the next bit (R45). -/
def State.nextRun (s : State) : Run := runAfter s.line.run (s.drive s.nextBit).level

theorem TickPlace.mem_order (p : TickPlace) (pins : BitVec 16) (happenings : List Instr) (i : Instr) :
    i ∈ p.order pins happenings ↔ i ∈ p.order pins [] ∨ i ∈ happenings := by
  cases p with
  | last => simp [TickPlace.order, or_comm]
  | first | within posted => simp [TickPlace.order, or_assoc]

theorem TickPlace.order_contacts (p : TickPlace) (pins : BitVec 16) :
    ∀ i ∈ p.order pins [], BitPart.of i = some .contacts := by
  cases p with
  | last | first | within posted => simp [TickPlace.order, BitPart.of]

theorem State.receiveBit_receiver (level : Level) (tie : Bool) (s : State) :
    ∀ i ∈ (s.receiveBit level tie).2, BitPart.of i = some .receiver := by
  unfold State.receiveBit
  split
  all_goals simp [BitPart.of]

theorem State.lineReports_line (r : Run) (tie : Bool) (s : State) :
    ∀ i ∈ s.lineReports r tie, BitPart.of i = some .line := by
  have hif (p : Prop) [Decidable p] (i : Instr) (hi : BitPart.of i = some .line) :
      ∀ j ∈ if p then [i] else [], BitPart.of j = some .line := by
    split
    all_goals simp [hi]
  unfold State.lineReports
  split
  · exact hif _ _ rfl
  split
  · split
    · simp [BitPart.of]
    · exact hif _ _ rfl
  · exact List.forall_mem_append.mpr ⟨hif _ _ rfl, hif _ _ rfl⟩

theorem State.drive_driving (e : LineBit) (s : State) : ∀ i ∈ (s.drive e).happenings, BitPart.of i = some .driving := by
  simp only [State.drive, State.driveMark, State.driveStart, State.driveFrame]
  repeat' split
  all_goals simp [BitPart.of]

/-- The happenings of a bit time but for a tick of that bit: those of driving, receiver and line interface. -/
def State.bitHappenings (s : State) : List Instr :=
  let d := s.drive s.nextBit
  d.happenings ++ (if d.receiverDone || !s.ctl.station.receives then (s.rx, []) else s.receiveBit d.level s.nextBit.tie).2 ++
    s.lineReports s.nextRun s.nextBit.tie

/-- The bit's clocks bring a tick (R125). -/
def State.ticks (cfg : Configuration) (s : State) : Bool := decide (8000 ≤ s.line.clocks + cfg.bitClocks)

theorem State.bitTime_pending (cfg : Configuration) (s : State) :
    (s.bitTime cfg).pending =
      s.pending ++ if s.ticks cfg then s.nextBit.tick.order s.inputPins s.bitHappenings else s.bitHappenings := rfl

theorem State.mem_bitTime_pending {s : State} (hqueue : s.pending = []) (cfg : Configuration) (i : Instr) :
    i ∈ (s.bitTime cfg).pending ↔
      (s.ticks cfg = true ∧ i ∈ s.nextBit.tick.order s.inputPins []) ∨ i ∈ s.bitHappenings := by
  rw [State.bitTime_pending, hqueue, List.nil_append]
  split
  · rename_i htick
    rw [TickPlace.mem_order]
    simp [htick]
  · rename_i htick
    simp [htick]

theorem State.mem_bitHappenings {s : State} {i : Instr} (h : i ∈ s.bitHappenings) :
    i ∈ (s.drive s.nextBit).happenings ∨ BitPart.of i = some .receiver ∨ i ∈ s.lineReports s.nextRun s.nextBit.tie := by
  simp only [State.bitHappenings, List.mem_append, or_assoc] at h
  refine h.imp_right (Or.imp_left fun hi => ?_)
  split at hi
  · exact nomatch hi
  · exact State.receiveBit_receiver _ _ _ _ hi

section
variable {s : State} (hqueue : s.pending = []) (cfg : Configuration) {i : Instr}
include hqueue

/-- Of the line interface's happenings, a bit time reports those of the run with that bit (R46–R48, R57). -/
theorem State.mem_bitTime_of_line (hi : BitPart.of i = some .line) :
    i ∈ (s.bitTime cfg).pending ↔ i ∈ s.lineReports s.nextRun s.nextBit.tie := by
  rw [State.mem_bitTime_pending hqueue]
  refine ⟨fun h => ?_, fun h => .inr (List.mem_append_right _ h)⟩
  rcases h with ⟨-, h⟩ | h
  · exact nomatch hi.symm.trans (TickPlace.order_contacts _ _ _ h)
  rcases State.mem_bitHappenings h with h | h | h
  · exact nomatch hi.symm.trans (State.drive_driving _ _ _ h)
  · exact nomatch hi.symm.trans h
  · exact h

/-- Of the sender's and the mark's happenings, a bit time reports those of the bit driven (R50, R93, R94, R96). -/
theorem State.mem_bitTime_of_driving (hi : BitPart.of i = some .driving) :
    i ∈ (s.bitTime cfg).pending ↔ i ∈ (s.drive s.nextBit).happenings := by
  rw [State.mem_bitTime_pending hqueue]
  refine ⟨fun h => ?_, fun h => .inr (List.mem_append_left _ (List.mem_append_left _ h))⟩
  rcases h with ⟨-, h⟩ | h
  · exact nomatch hi.symm.trans (TickPlace.order_contacts _ _ _ h)
  rcases State.mem_bitHappenings h with h | h | h
  · exact h
  · exact nomatch hi.symm.trans h
  · exact nomatch hi.symm.trans (State.lineReports_line _ _ _ _ h)

/-- Of the contacts' happenings, a bit time reports the tick of that bit (R125, R131). -/
theorem State.mem_bitTime_of_contacts (hi : BitPart.of i = some .contacts) :
    i ∈ (s.bitTime cfg).pending ↔ s.ticks cfg = true ∧ i ∈ s.nextBit.tick.order s.inputPins [] := by
  rw [State.mem_bitTime_pending hqueue]
  refine ⟨fun h => h.resolve_right fun h => ?_, .inl⟩
  rcases State.mem_bitHappenings h with h | h | h
  · exact nomatch hi.symm.trans (State.drive_driving _ _ _ h)
  · exact nomatch hi.symm.trans h
  · exact nomatch hi.symm.trans (State.lineReports_line _ _ _ _ h)

/-- What no part of a bit time reports is not reported. -/
theorem State.not_mem_bitTime_of_none (hi : BitPart.of i = none) : i ∉ (s.bitTime cfg).pending := by
  rw [State.mem_bitTime_pending hqueue]
  rintro (⟨-, h⟩ | h)
  · exact nomatch hi.symm.trans (TickPlace.order_contacts _ _ _ h)
  rcases State.mem_bitHappenings h with h | h | h
  · exact nomatch hi.symm.trans (State.drive_driving _ _ _ h)
  · exact nomatch hi.symm.trans h
  · exact nomatch hi.symm.trans (State.lineReports_line _ _ _ _ h)

end

theorem TickPlace.tick_mem_order (p : TickPlace) (pins : BitVec 16) : ∃ sample, .tick sample ∈ p.order pins [] := by
  cases p with
  | last | first => exact ⟨{ raw := pins }, by simp [TickPlace.order]⟩
  | within posted => exact ⟨{ raw := pins, within := some posted }, by simp [TickPlace.order]⟩

theorem TickPlace.raw_of_tick_mem {p : TickPlace} {pins : BitVec 16} {sample : Sample} (h : .tick sample ∈ p.order pins []) :
    sample.raw = pins := by
  cases p <;> simp only [TickPlace.order, List.nil_append, List.mem_cons, List.not_mem_nil, or_false, Instr.tick.injEq,
    reduceCtorEq] at h <;> rw [h]

/-! ### A step with nothing waiting (log 2) -/

/-- With nothing due a step is a bit time (log 2). -/
theorem step_bitTime {s : State} {cfg : Configuration} (hqueue : s.pending = []) (hpower : s.power = .running)
    (hc : s.ldr.config = some cfg) (hdue : s.dueNow cfg = []) : step s = .next (s.presentContacts.bitTime cfg) := by
  rw [step_of_pending_eq_nil hqueue, State.clock, if_neg fun hn => hn hpower, hc]
  simp only [hdue]

/-- What is due is put in the queue, and no time passes (log 2). -/
theorem step_dueNow {s : State} {cfg : Configuration} {c : Instr} (hqueue : s.pending = []) (hpower : s.power = .running)
    (hc : s.ldr.config = some cfg) (hdue : s.dueNow cfg = [c]) : step s = .next { s with pending := [c] } := by
  rw [step_of_pending_eq_nil hqueue, State.clock, if_neg fun hn => hn hpower, hc]
  simp only [hdue, State.enqueue, hqueue, List.nil_append]

/-- No acceptance is due while every count is below its settle count (R127). -/
theorem acceptanceDue_of_below {cfg : Configuration} {inp : Option (Vector InputState 16)}
    (h : ∀ inputs, inp = some inputs → ∀ j : Fin 16, (inputs.get j).count < 2 ^ (cfg.settle.get (groupOf j)).val) :
    (inp.map (acceptanceDue cfg)).getD false = false := by
  cases inp with
  | none => rfl
  | some inputs =>
    refine List.any_eq_false.mpr fun j _ => ?_
    have hbelow : ¬ cfg.settleCount j ≤ (inputs.get j).count := Nat.not_le.mpr (h inputs rfl j)
    simp [InputState.due, hbelow]

theorem State.dueNow_of_timer {cfg : Configuration} {s : State} (hacc : (s.inp.map (acceptanceDue cfg)).getD false = false)
    (ht : s.timerRunsOut cfg = true) : s.dueNow cfg = [.roundTimerExpiry] := by
  rw [State.dueNow, hacc, if_neg Bool.false_ne_true, if_pos ht]

theorem State.dueNow_of_no_timer {cfg : Configuration} {s : State}
    (hacc : (s.inp.map (acceptanceDue cfg)).getD false = false) (ht : s.timerRunsOut cfg = false) :
    s.dueNow cfg = if s.mayMark ∧ s.sixRecessive then [.markBegin] else [] := by
  rw [State.dueNow, hacc, if_neg Bool.false_ne_true, ht, if_neg Bool.false_ne_true]

theorem State.sixRecessive_iff (s : State) :
    s.sixRecessive = true ↔ ∃ n, s.line.run = some { level := recessive, length := n } ∧ 6 ≤ n := by
  unfold State.sixRecessive
  rcases s.line.run with _ | ⟨level, length⟩
  · simp
  · cases level with
    | false => simp [recessive]
    | true =>
      have hsix : (true && decide (Config.boundaryRun ≤ length)) = true ↔ 6 ≤ length := decide_eq_true_iff
      simpa [recessive] using hsix

/-! ### The level, the run and the driven bit (R45, R50, R93, R94) -/

theorem LineBit.read_eq (e : LineBit) (own : Level) :
    e.read own = if e.others = dominant ∨ (own = dominant ∧ e.carries = true) then dominant else recessive := by
  unfold LineBit.read
  cases e.others <;> cases own <;> cases e.carries <;> rfl

theorem runAfter_eq (r : Option Run) (b : Level) :
    runAfter r b =
      { level := b
        length := match r with
          | none => 1
          | some r => if r.level = b then r.length + 1 else 1 } := by
  unfold runAfter
  rcases r with _ | r
  · rfl
  · dsimp only
    split
    · rename_i h
      rw [← h]
    · rfl

theorem State.bitTime_run (cfg : Configuration) (s : State) : (s.bitTime cfg).line.run = some s.nextRun := rfl

theorem State.nextRun_level (s : State) : s.nextRun.level = (s.drive s.nextBit).level := by
  rw [State.nextRun, runAfter_eq]

/-- A bit time outside driving: the run takes the others' level, timer and clocks advance, receiver and queue take what they report (R45,
R49, R125). -/
theorem State.bitTime_of_quiet {s : State} (cfg : Configuration) (hmark : s.line.mark = none) (hdue : s.tx.startDue = false)
    (hdrive : s.tx.attempt ≠ .driving) :
    s.bitTime cfg = { s with
      lineIn := s.lineIn.tail
      line := {
        run := some (runAfter s.line.run s.nextBit.others), mark := none
        clocks := if s.ticks cfg then s.line.clocks + cfg.bitClocks - 8000 else s.line.clocks + cfg.bitClocks }
      trk := { s.trk with timer := s.trk.timer.advance }
      rx := (s.bitTime cfg).rx
      pending := (s.bitTime cfg).pending } := by
  have hquiet := State.drive_of_quiet s.nextBit hmark hdue hdrive
  apply State.eq_of_fields
  case line =>
    show ({ run := some s.nextRun, mark := (s.drive s.nextBit).mark, clocks := _ } : LineInterface) = _
    rw [State.nextRun, hquiet]
    rfl
  case tx =>
    show ({ s.tx with driven := (s.drive s.nextBit).driven } : Sender) = _
    rw [hquiet]
  all_goals rfl

/-! ### What each part reports of a bit (R46–R50, R57, R93, R94, R96) -/

theorem Walk.isOpen_iff (w : Walk) : (!w.notOpen) = true ↔ ∃ cursor, w = .opened cursor := by
  cases w <;> simp [Walk.notOpen]

section
variable {s : State} (r : Run) (tie : Bool)

/-- The reports of a dominant bit (R46, R48). -/
theorem State.lineReports_dominant (hst : s.ctl.station ≠ .lineFault .stuck) (hr : r.level = dominant) :
    s.lineReports r tie = if r.length = 10 then [.markRecognised tie] else if r.length = 64 then [.stuck] else [] := by
  rw [State.lineReports, if_neg hst, if_pos hr]
  rfl

/-- The reports of a recessive bit (R47, R57). -/
theorem State.lineReports_recessive (hst : s.ctl.station ≠ .lineFault .stuck) (hr : r.level = recessive) :
    s.lineReports r tie =
      (if s.trk.inMark then [.markEnd] else []) ++
        (if r.length % 6 = 0 ∧ !s.trk.walk.notOpen then [.slotBoundary] else []) := by
  rw [State.lineReports, if_neg hst, if_neg (by rw [hr]; decide)]
  rfl

/-- What a station that receives, or is not configured, has reported of a run (R46–R48, R57). -/
theorem State.mem_lineReports_of_ne (hst : s.ctl.station ≠ .lineFault .stuck) :
    ((.markRecognised tie ∈ s.lineReports r tie) ↔ (r.level = dominant ∧ r.length = 10)) ∧
      ((.stuck ∈ s.lineReports r tie) ↔ (r.level = dominant ∧ r.length = 64)) ∧
      ((.markEnd ∈ s.lineReports r tie) ↔ (r.level = recessive ∧ s.trk.inMark = true)) ∧
      ((.slotBoundary ∈ s.lineReports r tie) ↔
        (r.level = recessive ∧ 6 ∣ r.length ∧ ∃ cursor, s.trk.walk = .opened cursor)) ∧
      .lineClear ∉ s.lineReports r tie := by
  by_cases hr : r.level = dominant
  · have hnot : ¬ r.level = recessive := by rw [hr]; decide
    rw [State.lineReports_dominant r tie hst hr]
    refine ⟨?_, ?_, ?_, ?_, ?_⟩
    all_goals
      repeat' split
      all_goals simp_all
  · have hnot : r.level = recessive := Bool.eq_true_of_not_eq_false hr
    rw [State.lineReports_recessive r tie hst hnot]
    refine ⟨?_, ?_, ?_, ?_, ?_⟩
    all_goals simp [hnot, ← Walk.isOpen_iff, Nat.dvd_iff_mod_eq_zero]

/-- In LINE_FAULT with reason STUCK only the line's clearing is reported (R48, R120). -/
theorem State.mem_lineReports_of_stuck (hst : s.ctl.station = .lineFault .stuck) :
    ((.lineClear ∈ s.lineReports r tie) ↔ (r.level = recessive ∧ r.length = 64)) ∧
      (∀ first, .markRecognised first ∉ s.lineReports r tie) ∧ .stuck ∉ s.lineReports r tie ∧
      .markEnd ∉ s.lineReports r tie ∧ .slotBoundary ∉ s.lineReports r tie := by
  have hreports : s.lineReports r tie = if r.level = recessive ∧ r.length = 64 then [.lineClear] else [] := if_pos hst
  rw [hreports]
  refine ⟨?_, fun first => ?_, ?_, ?_, ?_⟩
  all_goals simp

end

/-- A dominant bit driven is read back recessive where nobody else drives and the transceiver does not carry it (R50, R94). -/
theorem LineBit.read_dominant (e : LineBit) : e.read dominant = recessive ↔ e.others = recessive ∧ e.carries = false := by
  unfold LineBit.read
  cases e.others <;> cases e.carries <;> decide

/-- The own mark read back (R50). -/
theorem State.mem_driveMark (k : Nat) (e : LineBit) (s : State) :
    ((.markFailed ∈ (s.driveMark k e).happenings) ↔ e.read dominant = recessive) ∧
      ((.markRelease ∈ (s.driveMark k e).happenings) ↔ k + 1 = 12 ∧ ¬ e.read dominant = recessive) := by
  refine ⟨?_, ?_⟩
  · simp only [State.driveMark]
    repeat' split
    all_goals simp_all
  · simp only [State.driveMark, Config.markLength]
    repeat' split
    all_goals simp_all

/-- The monitor's verdict on a bit of the own frame (R94, R96). -/
theorem State.mem_driveFrame (e : LineBit) {s : State} (hdriven : s.tx.driven < s.tx.line.length) {own : Level}
    (hown : s.tx.line.getD s.tx.driven recessive = own) :
    ((.collision s.tx.driven ∈ (s.driveFrame e).happenings) ↔ own = recessive ∧ e.read own = dominant) ∧
      ((.transceiverFault s.tx.driven ∈ (s.driveFrame e).happenings) ↔ own = dominant ∧ e.read own = recessive) ∧
      ((.attemptSent ∈ (s.driveFrame e).happenings) ↔ own = e.read own ∧ s.tx.driven + 1 = s.tx.line.length) := by
  have hlast : s.tx.line.length ≤ s.tx.driven + 1 ↔ s.tx.driven + 1 = s.tx.line.length := by omega
  simp only [State.driveFrame, hown]
  generalize e.read own = read
  rw [← hlast]
  by_cases hread : read = own
  · subst hread
    rw [if_pos rfl]
    by_cases hend : s.tx.line.length ≤ s.tx.driven + 1
    · rw [if_pos hend]
      simp [hend]
    · rw [if_neg hend]
      simp [hend]
  · have hother : read = !own := Bool.eq_not.mpr hread
    rw [if_neg hread]
    cases own with
    | false => simp [hother, dominant, recessive]
    | true => simp [hother, dominant, recessive]

/-- A bit of the own frame is driven and read back (R94). -/
theorem State.driveFrame_read (e : LineBit) (s : State) :
    (s.driveFrame e).level = e.read (s.tx.line.getD s.tx.driven recessive) ∧ (s.driveFrame e).driven = s.tx.driven + 1 := by
  simp only [State.driveFrame]
  repeat' split
  all_goals exact ⟨rfl, rfl⟩

/-- The start bit due is driven, or the slot is taken (R93, R94). -/
theorem State.mem_driveStart (e : LineBit) (s : State) :
    ((.startBit true ∈ (s.driveStart e).happenings) ↔ (e.others = dominant ∧ e.tie = true)) ∧
      ((.startBit false ∈ (s.driveStart e).happenings) ↔ ¬ (e.others = dominant ∧ e.tie = true)) ∧
      ((.transceiverFault 0 ∈ (s.driveStart e).happenings) ↔ (e.others = recessive ∧ e.carries = false)) := by
  by_cases htaken : e.others = dominant ∧ e.tie = true
  · rw [State.driveStart, if_pos htaken]
    simp [htaken.1, htaken.2, dominant, recessive]
  · rw [State.driveStart, if_neg htaken]
    have hread := e.read_dominant
    by_cases hlost : e.read dominant = recessive
    · simp [hlost, hread.mp hlost]
    · simp [htaken, hlost, mt hread.mpr hlost]

theorem State.nextRun_of_quiet {s : State} (hmark : s.line.mark = none) (hdue : s.tx.startDue = false)
    (hdrive : s.tx.attempt ≠ .driving) : s.nextRun = runAfter s.line.run s.nextBit.others := by
  rw [State.nextRun, State.drive_of_quiet s.nextBit hmark hdue hdrive]

theorem State.bitTime_clocks {cfg : Configuration} {s : State} (hclocks : s.line.clocks < 8000) :
    (s.bitTime cfg).line.clocks = (s.line.clocks + 256 / 2 ^ cfg.rate.val) % 8000 := by
  have hclocksEq : (s.bitTime cfg).line.clocks =
      if s.ticks cfg then s.line.clocks + 256 / 2 ^ cfg.rate.val - 8000 else s.line.clocks + 256 / 2 ^ cfg.rate.val := rfl
  have hbit : 256 / 2 ^ cfg.rate.val ≤ 256 := Nat.div_le_self ..
  have htick : s.ticks cfg = true ↔ 8000 ≤ s.line.clocks + 256 / 2 ^ cfg.rate.val := decide_eq_true_iff
  rw [hclocksEq]
  simp only [htick]
  generalize 256 / 2 ^ cfg.rate.val = bit at hbit
  split
  all_goals omega

/-! ### A bit time clause by clause -/

/-- A tick samples what the contacts present, in a bit time that brings one (R125, R127). -/
theorem State.bitTime_tick {s : State} (hqueue : s.pending = []) (cfg : Configuration) :
    (∀ sample, .tick sample ∈ (s.bitTime cfg).pending → sample.raw = s.inputPins) ∧
      ((∃ sample, .tick sample ∈ (s.bitTime cfg).pending) ↔ 8000 ≤ s.line.clocks + 256 / 2 ^ cfg.rate.val) := by
  have hmem (sample : Sample) := State.mem_bitTime_of_contacts hqueue cfg (i := .tick sample) rfl
  refine ⟨fun sample h => TickPlace.raw_of_tick_mem ((hmem sample).mp h).2,
    fun ⟨sample, h⟩ => of_decide_eq_true ((hmem sample).mp h).1, fun h => ?_⟩
  obtain ⟨sample, hsample⟩ := TickPlace.tick_mem_order s.nextBit.tick s.inputPins
  exact ⟨sample, (hmem sample).mpr ⟨decide_eq_true h, hsample⟩⟩

section
variable {s : State} {e : LineBit} (hqueue : s.pending = []) (hnext : s.nextBit = e) (cfg : Configuration)
include hnext

/-- Where nothing is driven the run takes the others' level (R45). -/
theorem State.nextRun_level_of_quiet (hmark : s.line.mark = none) (hstart : s.tx.startDue = false)
    (hdrive : s.tx.attempt ≠ .driving) : s.nextRun.level = e.others := by
  rw [State.nextRun_level, hnext, State.drive_of_quiet e hmark hstart hdrive]

include hqueue

/-- The reports of the run, outside LINE_FAULT with reason STUCK (R46–R48, R57). -/
theorem State.bitTime_reports_of_ne (hst : s.ctl.station ≠ .lineFault .stuck) :
    ((.markRecognised e.tie ∈ (s.bitTime cfg).pending) ↔ (s.nextRun.level = dominant ∧ s.nextRun.length = 10)) ∧
      ((.stuck ∈ (s.bitTime cfg).pending) ↔ (s.nextRun.level = dominant ∧ s.nextRun.length = 64)) ∧
      ((.markEnd ∈ (s.bitTime cfg).pending) ↔ (s.nextRun.level = recessive ∧ s.trk.inMark = true)) ∧
      ((.slotBoundary ∈ (s.bitTime cfg).pending) ↔
        (s.nextRun.level = recessive ∧ 6 ∣ s.nextRun.length ∧ ∃ cursor, s.trk.walk = .opened cursor)) ∧
      .lineClear ∉ (s.bitTime cfg).pending := by
  have hmem (i : Instr) (hi : BitPart.of i = some .line) := State.mem_bitTime_of_line hqueue cfg hi
  rw [hmem _ rfl, hmem _ rfl, hmem _ rfl, hmem _ rfl, hmem _ rfl, hnext]
  exact State.mem_lineReports_of_ne s.nextRun e.tie hst

/-- The reports of the run in LINE_FAULT with reason STUCK (R48, R120). -/
theorem State.bitTime_reports_of_stuck (hst : s.ctl.station = .lineFault .stuck) :
    ((.lineClear ∈ (s.bitTime cfg).pending) ↔ (s.nextRun.level = recessive ∧ s.nextRun.length = 64)) ∧
      (∀ first, .markRecognised first ∉ (s.bitTime cfg).pending) ∧ .stuck ∉ (s.bitTime cfg).pending ∧
      .markEnd ∉ (s.bitTime cfg).pending ∧ .slotBoundary ∉ (s.bitTime cfg).pending := by
  have hmem (i : Instr) (hi : BitPart.of i = some .line) := State.mem_bitTime_of_line hqueue cfg hi
  obtain ⟨hclear, hrecognised, hothers⟩ := State.mem_lineReports_of_stuck s.nextRun e.tie hst
  rw [hmem _ rfl, hmem _ rfl, hmem _ rfl, hmem _ rfl, hnext]
  exact ⟨hclear, fun first h => hrecognised first (hnext ▸ (hmem _ rfl).mp h), hothers⟩

/-- A bit of the own mark, read back (R50). -/
theorem State.bitTime_of_mark {k : Nat} (hmark : s.line.mark = some k) :
    (s.bitTime cfg).line.mark = some (k + 1) ∧
      (s.nextRun.level = recessive ↔ e.others = recessive ∧ e.carries = false) ∧
      ((.markFailed ∈ (s.bitTime cfg).pending) ↔ e.others = recessive ∧ e.carries = false) ∧
      ((.markRelease ∈ (s.bitTime cfg).pending) ↔ k + 1 = 12 ∧ ¬ (e.others = recessive ∧ e.carries = false)) := by
  have hdrive := State.drive_of_mark e hmark
  have hmarkAfter : (s.bitTime cfg).line.mark = (s.drive s.nextBit).mark := rfl
  have hmem (i : Instr) (hi : BitPart.of i = some .driving) := State.mem_bitTime_of_driving hqueue cfg hi
  have hread := State.mem_driveMark k e s
  rw [e.read_dominant] at hread
  rw [hmarkAfter, State.nextRun_level, hmem _ rfl, hmem _ rfl, hnext, hdrive]
  exact ⟨rfl, e.read_dominant, hread⟩

/-- A bit of the own frame, compared with the level read back (R94, R96). -/
theorem State.bitTime_of_driving (hmark : s.line.mark = none) (hdrive : s.tx.attempt = .driving)
    (hdriven : s.tx.driven < s.tx.line.length) {own : Level} (hown : s.tx.line.getD s.tx.driven recessive = own) :
    (s.bitTime cfg).tx = { s.tx with driven := s.tx.driven + 1 } ∧ (s.bitTime cfg).ltx = own ∧
      s.nextRun.level = e.read own ∧
      ((.collision s.tx.driven ∈ (s.bitTime cfg).pending) ↔ own = recessive ∧ e.read own = dominant) ∧
      ((.transceiverFault s.tx.driven ∈ (s.bitTime cfg).pending) ↔ own = dominant ∧ e.read own = recessive) ∧
      ((.attemptSent ∈ (s.bitTime cfg).pending) ↔ own = e.read own ∧ s.tx.driven + 1 = s.tx.line.length) := by
  have hframe := State.drive_of_driving e hmark hdrive
  obtain ⟨hlevel, hcount⟩ := State.driveFrame_read e s
  have htx : (s.bitTime cfg).tx = { s.tx with driven := s.tx.driven + 1 } := by
    rw [← hcount, ← hframe, ← hnext]
    rfl
  have hmarkAfter : (s.bitTime cfg).line.mark = none := State.drive_mark _ hmark
  have hmem (i : Instr) (hi : BitPart.of i = some .driving) := State.mem_bitTime_of_driving hqueue cfg hi
  refine ⟨htx, ?_, ?_, ?_⟩
  · rw [State.ltx, hmarkAfter, htx, hdrive]
    exact hown
  · rw [State.nextRun_level, hnext, hframe, hlevel, hown]
  · rw [hmem _ rfl, hmem _ rfl, hmem _ rfl, hnext, hframe]
    exact State.mem_driveFrame e hdriven hown

/-- The bit at which the start bit is due (R93, R94). -/
theorem State.bitTime_of_startDue (hmark : s.line.mark = none) (hstart : s.tx.startDue = true) :
    ((.startBit true ∈ (s.bitTime cfg).pending) ↔ (e.others = dominant ∧ e.tie = true)) ∧
      ((.startBit false ∈ (s.bitTime cfg).pending) ↔ ¬ (e.others = dominant ∧ e.tie = true)) ∧
      ((.transceiverFault 0 ∈ (s.bitTime cfg).pending) ↔ (e.others = recessive ∧ e.carries = false)) := by
  have hmem (i : Instr) (hi : BitPart.of i = some .driving) := State.mem_bitTime_of_driving hqueue cfg hi
  rw [hmem _ rfl, hmem _ rfl, hmem _ rfl, hnext, State.drive_of_startDue e hmark hstart]
  exact State.mem_driveStart e s

end

section
variable {s : State} {cfg : Configuration} (hqueue : s.pending = []) (hpower : s.power = .running)
  (hc : s.ldr.config = some cfg) (hacc : (s.inp.map (acceptanceDue cfg)).getD false = false)
include hqueue hpower hc hacc

/-- A running timer expires before its last bit, and not sooner (R49). -/
theorem step_of_timer {b : Nat} (ht : s.trk.timer = .running b) :
    (64 * cfg.period ≤ b + 1 → step s = .next { s with pending := [.roundTimerExpiry] }) ∧
      (b + 1 < 64 * cfg.period → ∃ t, step s = .next t ∧ .roundTimerExpiry ∉ t.pending) := by
  refine ⟨fun hout => ?_, fun hrun => ?_⟩
  · have htimer : s.timerRunsOut cfg = true := by
      rw [State.timerRunsOut, ht]
      exact decide_eq_true hout
    exact step_dueNow hqueue hpower hc (State.dueNow_of_timer hacc htimer)
  · have htimer : s.timerRunsOut cfg = false := by
      rw [State.timerRunsOut, ht]
      exact decide_eq_false (Nat.not_le.mpr hrun)
    have hdue := State.dueNow_of_no_timer hacc htimer
    split at hdue
    · exact ⟨_, step_dueNow hqueue hpower hc hdue, by simp⟩
    · exact ⟨_, step_bitTime hqueue hpower hc hdue, State.not_mem_bitTime_of_none (s := s.presentContacts) hqueue cfg rfl⟩

/-- A mark that is due begins after 6 recessive bits, and not sooner (R50). -/
theorem step_of_markDue (ht : s.trk.timer = .expired) (hmay : s.mayMark = true) :
    (s.sixRecessive = true → step s = .next { s with pending := [.markBegin] }) ∧
      (¬ s.sixRecessive = true → ∃ t, step s = .next t ∧ .markBegin ∉ t.pending) := by
  have htimer : s.timerRunsOut cfg = false := by rw [State.timerRunsOut, ht]
  have hdue := State.dueNow_of_no_timer hacc htimer
  refine ⟨fun hsix => ?_, fun hsix => ?_⟩
  · rw [if_pos ⟨hmay, hsix⟩] at hdue
    exact step_dueNow hqueue hpower hc hdue
  · rw [if_neg fun h => hsix h.2] at hdue
    exact ⟨_, step_bitTime hqueue hpower hc hdue, State.not_mem_bitTime_of_none (s := s.presentContacts) hqueue cfg rfl⟩

end

theorem RoundTimer.advance_of_not_running {t : RoundTimer} (h : ∀ b, t ≠ .running b) : t.advance = t := by
  cases t with
  | running b => exact absurd rfl (h b)
  | stopped | expired => rfl

theorem State.presentContacts_nextBit {s : State} {e : LineBit} {rest : List LineBit} (h : s.lineIn = e :: rest) :
    s.presentContacts.nextBit = e := congrArg (List.headD · quietBit) h

/-- Settles O4. -/
theorem bitTimeMeasuresAndDrives : Obligations.BitTimeMeasuresAndDrives := by
  refine ⟨fun s cfg e rest hqueue hpower hc hdue hline hmark hstart hdrive hclocks => ?_,
    fun s cfg e rest hqueue hpower hc hdue hline hmark hstart hdrive => ?_,
    fun s cfg hqueue hpower hc hbelow => ?_,
    fun s cfg e rest k hqueue hpower hc hdue hline hmark => ?_,
    fun s cfg e rest hqueue hpower hc hdue hline hmark => ⟨fun hdrive hdriven => ?_, fun hidle hkind => ?_⟩⟩
  · have hnext := State.presentContacts_nextBit hline
    have hquiet := State.bitTime_of_quiet (s := s.presentContacts) cfg hmark hstart hdrive
    have htx : (s.presentContacts.bitTime cfg).tx = s.presentContacts.tx := (congrArg State.tx hquiet).trans rfl
    have hmarkAfter : (s.presentContacts.bitTime cfg).line.mark = none := congrArg (fun t => t.line.mark) hquiet
    refine ⟨_, step_bitTime hqueue hpower hc hdue, ?_, ?_, fun b hb => congrArg RoundTimer.advance hb,
      fun hb => RoundTimer.advance_of_not_running hb, State.bitTime_clocks hclocks,
      State.bitTime_tick (s := s.presentContacts) hqueue cfg⟩
    · apply State.eq_of_fields
      case lineIn => exact congrArg List.tail hline
      case tx => exact htx
      case line =>
        show _ = ({ run := _, mark := s.line.mark, clocks := _ } : LineInterface)
        rw [hmark, ← hmarkAfter]
      all_goals rfl
    · rw [State.bitTime_run, State.nextRun_of_quiet (s := s.presentContacts) hmark hstart hdrive, hnext, runAfter_eq]
      rfl
  · have hnext := State.presentContacts_nextBit hline
    have hlevel := State.nextRun_level_of_quiet hnext hmark hstart hdrive
    refine ⟨_, s.presentContacts.nextRun.length, step_bitTime hqueue hpower hc hdue, ?_, fun hst => ?_, fun hst => ?_⟩
    · rw [State.bitTime_run, ← hlevel]
    · rw [← hlevel]
      exact State.bitTime_reports_of_ne (s := s.presentContacts) hqueue hnext cfg hst
    · rw [← hlevel]
      exact State.bitTime_reports_of_stuck (s := s.presentContacts) hqueue hnext cfg hst
  · have hacc := acceptanceDue_of_below hbelow
    refine ⟨fun b ht => step_of_timer hqueue hpower hc hacc ht, fun ht hmarkDue htiming hclosed hmark hdrive => ?_⟩
    have hmay : s.mayMark = true := s.mayMark_iff.mpr ⟨hmarkDue, htiming, hclosed, hmark, hdrive⟩
    obtain ⟨hbegins, hwaits⟩ := step_of_markDue hqueue hpower hc hacc ht hmay
    refine ⟨fun n hrun hn => hbegins (s.sixRecessive_iff.mpr ⟨n, hrun, hn⟩), fun hfew => hwaits fun hsix => ?_⟩
    obtain ⟨n, hrun, hn⟩ := s.sixRecessive_iff.mp hsix
    exact absurd (hfew n hrun) (Nat.not_lt.mpr hn)
  · obtain ⟨hmarkAfter, hreports⟩ :=
      State.bitTime_of_mark (s := s.presentContacts) hqueue (State.presentContacts_nextBit hline) cfg hmark
    exact ⟨_, _, step_bitTime hqueue hpower hc hdue, hmarkAfter, State.bitTime_run .., hreports⟩
  · intro k own read
    have hread : e.read own = read := e.read_eq own
    obtain ⟨htx, hltx, hlevel, hreports⟩ := State.bitTime_of_driving (s := s.presentContacts) hqueue
      (State.presentContacts_nextBit hline) cfg hmark hdrive hdriven (own := own) rfl
    rw [hread] at hlevel hreports
    exact ⟨_, _, step_bitTime hqueue hpower hc hdue, htx, hltx, State.bitTime_run .., hlevel, hreports⟩
  · exact ⟨_, step_bitTime hqueue hpower hc hdue, State.bitTime_of_startDue (s := s.presentContacts) hqueue
      (State.presentContacts_nextBit hline) cfg hmark (s.tx.startDue_iff.mpr ⟨hidle, hkind⟩)⟩


end Sys2Proof.Machine
end
